-- ==== Sys2Proof/Word.lean ====
section
/-! DEFINITION. The word types the packets and counters of the Brelan 4620 are made of, and their plainest arithmetic. -/

namespace Sys2Proof

/-- One packet byte (spec 12 R187). -/
abbrev Byte := BitVec 8

/-- A two-byte packet field, most significant byte first (spec 12 R187). -/
abbrev Half := BitVec 16

/-- A four-byte packet field, and the width of the wrapping counters 0..2^32 - 1. -/
abbrev Quad32 := BitVec 32

/-- One 10-bit video sample. -/
abbrev Sample := BitVec 10

/-- The samples of one line in the order they are transmitted. -/
abbrev Line := List Sample

/-- `v` replaced by the nearer limit of `lo..hi` (spec 02 R23). -/
def clampTo (lo hi v : Nat) : Nat := if v < lo then lo else if hi < v then hi else v

/-- ceil(a / b) for b above 0. -/
def ceilDiv (a b : Nat) : Nat := (a + b - 1) / b

end Sys2Proof
end

