-- ==== Sys2Proof/Syntax.lean ====
section
/-! DEFINITION. The commands and events of the Brelan 4620: one constructor of `Instr` for each row of the opcode
table, with the operands the specification gives it. -/

namespace Sys2Proof

/-! ## What arrives at the input port -/

/-- The eight recognised formats, in the order of spec 01 section 1.1. -/
inductive Format where
  | f2160p50 | f2160p5994 | f1080p50 | f1080p5994 | f1080p60 | f720p50 | f720p5994 | f720p60
deriving DecidableEq, Repr

/-- The structure an incoming frame carries (spec 01 R1). The sample rate of the interface enters as the frame period
`periodN / periodD` seconds that the structure has at that rate (log 26). -/
structure FrameStructure where
  totalLines : Nat
  activeLines : Nat
  samplesPerLine : Nat
  activeSamples : Nat
  periodN : Nat
  periodD : Nat
  completeStart : Bool
deriving DecidableEq, Repr

/-- What the vertical blanking of an incoming frame delivers: its lines in order, and how many of the packets in its
carriage lines arrive at the intake within the frame's arrival; those after them arrive as events of their own (log 4). -/
structure Blanking where
  lines : List Line
  handed : Nat
deriving DecidableEq, Repr

/-- One picture element: the components Y, Cb and Cr, each 0..1023. -/
structure Pixel where
  y : Nat
  cb : Nat
  cr : Nat
deriving DecidableEq, Repr

/-- The two kinds of packet, told apart by the marker's second byte (spec 01 R6). -/
inductive PacketKind where
  | control | report
deriving DecidableEq, Repr

/-- A packet as the input unit hands it over (spec 01 R6): its bytes from the address on, as far as the line holds
them, and whether the line ended before the packet did. -/
structure Found where
  kind : PacketKind
  bytes : List Byte
  truncated : Bool
deriving DecidableEq, Repr

/-- Which of the three addresses a packet matched (spec 02 section 2.2). -/
inductive Route where
  | device | group | all
deriving DecidableEq, Repr

/-- An entry of the intake queue (spec 02 section 2.2). -/
structure Entry where
  route : Route
  level : Byte
  code : Byte
  seq : Byte
  payload : List Byte
  damaged : Bool
deriving DecidableEq, Repr

/-- The fields every command packet carries beside its code and payload: route, source level 0..3, sequence. -/
structure Header where
  route : Route
  level : Nat
  seq : Byte
deriving DecidableEq, Repr

/-! ## Payload fields, each in the width the layouts of spec 12 section 12.5 give it -/

/-- The settings present in a DEVICE_CONFIG packet (spec 02 section 2.5). -/
structure DeviceFields where
  groupAddress : Option Byte
  lossFilter : Option Byte
  classFilter : Option Byte
  largeThreshold : Option Half
  staleLimit : Option Half
  feedTimeout : Option Half
  keyFade : Option Byte
  guardFade : Option Byte
deriving DecidableEq, Repr

/-- One colour as PALETTE_WRITE carries it. -/
structure ColourField where
  y : Half
  cb : Half
  cr : Half
deriving DecidableEq, Repr

structure FontFields where
  font : Byte
  base : Half
  count : Half
  height : Byte
  baseline : Byte
  defaultGlyph : Half
deriving DecidableEq, Repr

structure MetricsFields where
  font : Byte
  index : Half
  advance : Byte
  bitmap : Byte
deriving DecidableEq, Repr

/-- `rows` holds the row data, one list of 32 bytes for each row; the row count is its length. -/
structure RowsFields where
  font : Byte
  index : Half
  first : Byte
  rows : List (List Byte)
deriving DecidableEq, Repr

structure CodeMapFields where
  font : Byte
  first : Byte
  entries : List Half
deriving DecidableEq, Repr

structure StyleFields where
  selector : Byte
  owner : Byte
  font : Byte
  textColour : Byte
  bandColour : Byte
  bandOpacity : Half
  padLeft : Byte
  padRight : Byte
  reserve : Byte
  flashColour : Byte
deriving DecidableEq, Repr

structure ItemFields where
  item : Half
  kind : Byte
  selector : Byte
  offset : Half
  length : Half
  symbol : Half
  fieldSet : Byte
  sepCode : Byte
  sepWidth : Byte
deriving DecidableEq, Repr

structure LaneFields where
  lane : Byte
  owner : Byte
  top : Half
  height : Byte
  left : Half
  right : Half
  gap : Half
  defaultStyle : Byte
  staleColour : Byte
deriving DecidableEq, Repr

/-- `places` are the eight code places of SYMBOL_DEFINE. -/
structure SymbolFields where
  symbol : Half
  owner : Byte
  textLength : Byte
  places : List Byte
  decimals : Byte
  inverse : Byte
  reference : Quad32
deriving DecidableEq, Repr

/-- A symbol number with a price: the payload of QUOTE and REFERENCE and one pair of QUOTE_BATCH. -/
structure PriceFields where
  symbol : Half
  price : Quad32
deriving DecidableEq, Repr

structure MovementFields where
  bank : Byte
  cls : Byte
  colour : Byte
  arrowPresent : Byte
  arrow : Byte
  flash : Byte
deriving DecidableEq, Repr

structure CauseFields where
  cause : Byte
  enable : Byte
  mode : Byte
  action : Byte
deriving DecidableEq, Repr

structure SlateFields where
  configure : Byte
  item : Half
  top : Half
  height : Byte
  left : Half
  right : Half
  style : Byte
deriving DecidableEq, Repr

/-- A recognised command with its payload fields (spec 02 section 2.3, spec 12 section 12.5). RESET and LANE_STOP carry
the byte that the opcode table splits into two rows each. -/
inductive Command where
  | reset (scope : Byte)
  | deviceConfig (f : DeviceFields)
  | paletteWrite (first : Byte) (colours : List ColourField)
  | fontDefine (f : FontFields)
  | fontClear (font : Byte)
  | glyphMetrics (f : MetricsFields)
  | glyphRows (f : RowsFields)
  | codeMapWrite (f : CodeMapFields)
  | styleWrite (f : StyleFields)
  | styleDrop (selector : Byte)
  | textWrite (offset : Half) (codes : List Byte)
  | itemWrite (f : ItemFields)
  | itemDrop (item : Half)
  | playlistWrite (lane : Byte) (items : List Half)
  | playlistAppend (lane : Byte) (items : List Half)
  | laneConfig (f : LaneFields)
  | laneStart (lane mode start : Byte)
  | laneStop (lane mode : Byte)
  | laneSpeed (lane : Byte) (target step : Half)
  | interject (lane : Byte) (items : List Half)
  | interjectCancel (lane : Byte)
  | symbolDefine (f : SymbolFields)
  | symbolDrop (symbol : Half)
  | quote (f : PriceFields)
  | quoteBatch (pairs : List PriceFields)
  | reference (f : PriceFields)
  | halt (symbol : Half) (flag : Byte)
  | movementWrite (f : MovementFields)
  | keyOn
  | keyOff
  | guardConfig (f : CauseFields)
  | slateConfig (f : SlateFields)
  | guardSet (action cut : Byte)
  | guardRelease
  | query (kind : Byte) (index : Half)
deriving DecidableEq, Repr

/-- What acts on an output frame start beside the palette, whose place in the order shows nowhere (spec 01 R9). A lane
acts twice: its stages 1 to 7 and its snapshot, stage 8 (spec 07 R114). `line` is the renderer's act on the line of the
ending frame that the start overtakes, with the programme picture of that line (spec 10 R160). -/
inductive FrameAct where
  | lane (m : Fin 4)
  | snapshot (m : Fin 4)
  | quote
  | guard
  | keyer
  | report
  | line (programme : Option (List Pixel))
deriving DecidableEq, Repr

/-- What may come about among the takings that follow a completion (spec 02 R21, R26, log 3): the next of those takings, or
an event between two of them. -/
inductive Meanwhile where
  | taking
  | arrival (p : Found)
  | goodFrame (frame : FrameStructure) (blanking : Blanking)
  | frameWindowExpiry
  | outputFrameStart (order : List FrameAct)
  | drawLine (programme : Option (List Pixel))
  | powerOnReset
deriving DecidableEq, Repr

/-- The commands and events of the part, one for each row of the opcode table, in the table's order. A packet command
is a control packet that has matched this part's address undamaged; its operands are its header and payload fields. A
completion's operand is what comes about among the takings that follow it, nothing unless it is given. -/
inductive Instr where
  | powerOnReset
  | resetRelease (guardFirst : Bool) (order : List FrameAct)
  | goodFrame (frame : FrameStructure) (blanking : Blanking)
  | frameWindowExpiry
  | outputFrameStart (order : List FrameAct)
  | packetArrival (p : Found)
  | damagedEntry (e : Entry)
  | unknownCommand (h : Header) (code : Byte) (payload : List Byte)
  | resetRun (h : Header)
  | resetAll (h : Header)
  | deviceConfig (h : Header) (f : DeviceFields)
  | paletteWrite (h : Header) (first : Byte) (colours : List ColourField)
  | fontDefine (h : Header) (f : FontFields)
  | fontClear (h : Header) (font : Byte)
  | glyphMetrics (h : Header) (f : MetricsFields)
  | glyphRows (h : Header) (f : RowsFields)
  | codeMapWrite (h : Header) (f : CodeMapFields)
  | styleWrite (h : Header) (f : StyleFields)
  | styleDrop (h : Header) (selector : Byte)
  | textWrite (h : Header) (offset : Half) (codes : List Byte)
  | itemWrite (h : Header) (f : ItemFields)
  | itemDrop (h : Header) (item : Half)
  | playlistWrite (h : Header) (lane : Byte) (items : List Half)
  | playlistAppend (h : Header) (lane : Byte) (items : List Half)
  | laneConfig (h : Header) (f : LaneFields)
  | laneStart (h : Header) (lane mode start : Byte)
  | laneStopDrain (h : Header) (lane : Byte)
  | laneStopCut (h : Header) (lane : Byte)
  | laneSpeed (h : Header) (lane : Byte) (target step : Half)
  | interject (h : Header) (lane : Byte) (items : List Half)
  | interjectCancel (h : Header) (lane : Byte)
  | symbolDefine (h : Header) (f : SymbolFields)
  | symbolDrop (h : Header) (symbol : Half)
  | quote (h : Header) (f : PriceFields)
  | quoteBatch (h : Header) (pairs : List PriceFields)
  | reference (h : Header) (f : PriceFields)
  | halt (h : Header) (symbol : Half) (flag : Byte)
  | movementWrite (h : Header) (f : MovementFields)
  | keyOn (h : Header)
  | keyOff (h : Header)
  | guardConfig (h : Header) (f : CauseFields)
  | slateConfig (h : Header) (f : SlateFields)
  | guardSet (h : Header) (action cut : Byte)
  | guardRelease (h : Header)
  | query (h : Header) (kind : Byte) (index : Half)
  | glyphRowsCompletion (among : List Meanwhile := [])
  | fontClearCompletion (among : List Meanwhile := [])
  | drawLine (programme : Option (List Pixel))
deriving DecidableEq, Repr

end Sys2Proof
end

