-- ==== Sys2Proof/Decode.lean ====
section
/-! DEFINITION. The command a word of the table's bits spells. -/

namespace Sys2Proof

/-- The opcode table gives no row any bits: the part is commanded by packets and events, whose layouts Machine/Operands.lean
reads and writes. So no word of `nbits` bits spells a command. -/
def decodeTableWord (nbits w : Nat) : Option Instr :=
  match nbits, w with
  | _, _ => none

end Sys2Proof
end

