-- ==== Sys2Proof/Config.lean ====
section
/-! DEFINITION. The values the specification leaves open: constants without a body, so that nothing can be proved of them. -/

namespace Sys2Proof.Config

/-- Advance width of a glyph slot that nothing has written since a power-on reset: `k` counts the power-on resets
before, `slot` is the slot number (spec 04 R46). DESIGN CHOICE, log 9: a free value within the range of the table. -/
opaque freeAdvance (k slot : Nat) : Fin 65

/-- Bitmap width of such a slot before it is brought to at most the advance width (spec 04 R46). DESIGN CHOICE, log 9. -/
opaque freeBitmap (k slot : Nat) : Fin 65

/-- Coverage of such a slot at a row and a column (spec 04 R46). DESIGN CHOICE, log 9. -/
opaque freeCoverage (k slot row column : Nat) : Fin 16

/-- The byte at the command code's place of a report packet, which the specification does not state (spec 12 R188);
`n` is the output frame counter and `i` the packet's place in the two report lines. DESIGN CHOICE, log 13. -/
opaque freeReportCode (n i : Nat) : Byte

end Sys2Proof.Config
end

