-- ==== Sys2Proof/Machine/State.lean ====
section
/-! DEFINITION. The state of the Brelan 4620 as plain data, block by block in the order of spec 00, and its value after
power-on reset. Why a step can stop: it cannot. -/

namespace Sys2Proof.Machine

open Sys2Proof

/-! ## Carriers -/

/-- An addressed store: address and content pairs, addresses strictly rising, nothing listed that equals what an
unlisted address reads as (Machine/Ops.lean reads and writes it). -/
abbrev Table (α : Type) := List (Nat × α)

/-- Four things numbered 0 to 3: the lanes, the fonts, the code maps. -/
structure Quad (α : Type) where
  q0 : α
  q1 : α
  q2 : α
  q3 : α
deriving DecidableEq, Repr

/-- The same thing four times. -/
def Quad.all {α : Type} (a : α) : Quad α := ⟨a, a, a, a⟩

/-- The counters that wrap from 2^32 - 1 to 0. -/
abbrev Counter := BitVec 32

/-! ## Input unit and output timing (spec 01) -/

inductive InputState where
  | noSignal | acquiring | locked | holdover
deriving DecidableEq, Repr

/-- Spec 01 section 1.2. -/
structure InputUnit where
  state : InputState
  lockedFormat : Option Format
  candidate : Option Format
  goodCount : Nat
  missCount : Nat
  lossFilter : Nat
deriving DecidableEq, Repr

inductive TimingMode where
  | following | flywheel
deriving DecidableEq, Repr

/-- An outgoing line: a sample that carries blanking level is `none` (log 14). -/
abbrev OutLine := List (Option Sample)

/-- The outgoing frame in progress: its format, whether it began in FOLLOWING, and the lines of its vertical blanking
in order, the report lines apart (spec 01 R10 to R12). A line not listed carries blanking level. -/
structure OutFrame where
  format : Format
  following : Bool
  blanking : List OutLine
deriving DecidableEq, Repr

/-- An output frame start produced by an input frame start and still to come, three line periods later (spec 01 R7): its
format, and the lines of the input frame's vertical blanking as the outgoing frame will carry them (R10, R11). -/
structure FollowedStart where
  format : Format
  blanking : List OutLine
deriving DecidableEq, Repr

/-- Spec 01 section 1.4. `starts` are the followed output frame starts still to come, the next one first (R7, R8,
log 28). -/
structure OutputTiming where
  mode : TimingMode
  format : Format
  counter : Counter
  starts : List FollowedStart
  frame : Option OutFrame
deriving DecidableEq, Repr

/-! ## Intake and command engine (spec 02) -/

/-- Spec 02 section 2.2. -/
structure Intake where
  queue : List Entry
  latch : Bool
  dropped : Counter
  groupAddress : Option Nat
deriving DecidableEq, Repr

/-- The twelve refusal reasons, in the order of the table of spec 02 R22. -/
inductive Reason where
  | checksum | unknown | length | level | range | state | inUse | limit | notDefined | depth | replyFull | misaddressed
deriving DecidableEq, Repr

/-- The last-refusal record (spec 02 R22). -/
structure RefusalRecord where
  seq : Byte
  code : Byte
  reason : Reason
  frameCount : Counter
deriving DecidableEq, Repr

/-- The in-flight operation with its fields and its target fixed at the taking (spec 02 R24, 04 R48, R50). -/
inductive InFlight where
  | glyphRows (f : RowsFields) (slot : Nat)
  | fontClear (font base count : Nat)
deriving DecidableEq, Repr

/-- Spec 02 section 2.3: `op` is present exactly while the engine is BUSY. -/
structure Engine where
  op : Option InFlight
  refusals : Counter
  last : Option RefusalRecord
deriving DecidableEq, Repr

/-! ## Glyph store and palette (spec 04) -/

/-- Spec 04 section 4.1; `none` as default glyph is ABSENT. -/
structure FontDef where
  base : Nat
  count : Nat
  height : Nat
  baseline : Nat
  defaultGlyph : Option Nat
deriving DecidableEq, Repr

/-- What the unwritten parts of glyph slots hold: zero, or the undefined values of the power-on reset numbered `k`. -/
inductive Fill where
  | zero
  | undefined (k : Nat)
deriving DecidableEq, Repr

/-- One row of a glyph slot: 64 coverage values, or what the power-on reset numbered `k` left of a row it found being
written (spec 04 R49). -/
inductive GlyphRow where
  | written (columns : List Nat)
  | undefined (k : Nat)
deriving DecidableEq, Repr

/-- A glyph slot: the widths where they have been written since its fill, and the rows that have been (spec 04 section
4.2). -/
structure Glyph where
  fill : Fill
  widths : Option (Nat × Nat)
  rows : Table GlyphRow
deriving DecidableEq, Repr

/-- The glyph store. A slot not listed is blank with the store's own fill. -/
structure GlyphStore where
  fonts : Quad (Option FontDef)
  maps : Quad (Table (Option Nat))
  fill : Fill
  slots : Table Glyph
  missing : Counter
deriving DecidableEq, Repr

/-- A palette colour (spec 04 section 4.6). -/
structure Colour where
  y : Nat
  cb : Nat
  cr : Nat
deriving DecidableEq, Repr

structure Palette where
  written : Table Colour
  displayed : Table Colour
deriving DecidableEq, Repr

/-! ## Style table, item table (spec 05, 06) -/

/-- A present style descriptor (spec 05 section 5.1). -/
structure Style where
  owner : Nat
  font : Nat
  textColour : Nat
  bandColour : Nat
  bandOpacity : Nat
  padLeft : Nat
  padRight : Nat
  reserve : Nat
  flashColour : Nat
deriving DecidableEq, Repr

/-- The field set of a QUOTE item; SYMBOL is always a member (spec 06 section 6.1). -/
structure FieldSet where
  price : Bool
  arrow : Bool
  change : Bool
  percent : Bool
deriving DecidableEq, Repr

inductive ItemBody where
  | text (offset length : Nat)
  | quote (symbol : Nat) (fields : FieldSet)
  | separator (code : Byte) (width : Nat)
deriving DecidableEq, Repr

/-- An item record of a kind other than NONE (spec 06 section 6.1). -/
structure Item where
  owner : Nat
  selector : Nat
  body : ItemBody
deriving DecidableEq, Repr

/-! ## Quote unit (spec 09) -/

/-- The movement classes in the order of spec 09 section 9.5. -/
inductive MoveClass where
  | upSmall | upLarge | downSmall | downLarge | flat | halted
deriving DecidableEq, Repr

/-- A defined symbol record (spec 09 section 9.1). `last` is present exactly while the last price is. -/
structure Symbol where
  owner : Nat
  text : List Byte
  decimals : Nat
  inverse : Bool
  reference : Nat
  last : Option Nat
  change : Int
  percent : Option Int
  computed : MoveClass
  displayed : MoveClass
  candidate : Option MoveClass
  agree : Nat
  halted : Bool
  flash : Nat
  age : Nat
  stale : Bool
deriving DecidableEq, Repr

/-- A movement table entry (spec 09 section 9.5). -/
structure Movement where
  colour : Nat
  arrow : Option Byte
  flash : Nat
deriving DecidableEq, Repr

structure QuoteUnit where
  symbols : Table (Option Symbol)
  feedAge : Nat
  classFilter : Nat
  largeThreshold : Nat
  staleLimit : Nat
  staleFrames : Nat
  feedTimeout : Nat
  feedFrames : Nat
  movement : Table Movement
deriving DecidableEq, Repr

/-! ## Lane engines (spec 07, 08) -/

/-- The settings of a LANE_CONFIG other than the owner level (spec 07 section 7.1). -/
structure LaneConfig where
  top : Nat
  height : Nat
  left : Nat
  right : Nat
  gap : Nat
  defaultStyle : Nat
  staleColour : Nat
deriving DecidableEq, Repr

/-- The geometry in force (spec 07 R91). -/
structure Geometry where
  top : Nat
  height : Nat
  left : Nat
  right : Nat
deriving DecidableEq, Repr

inductive LaneState where
  | idle | running | draining
deriving DecidableEq, Repr

inductive LaneMode where
  | loop | singlePass
deriving DecidableEq, Repr

/-- The staging faults in the order of spec 12 section 12.5. -/
inductive StagingFault where
  | emptyItem | nullStyle | styleAbsent | level | limit | noSymbol
deriving DecidableEq, Repr

/-- An interjection context: its list and cursor (spec 08 section 8.1). -/
structure Interjection where
  items : List Nat
  cursor : Nat
deriving DecidableEq, Repr

/-- A staged entry (spec 07 R97). `position` is the index in the active context the entry was staged from; it is `none`
where the entry has no list position or its context has ended, which every rule treats alike (log 18). -/
structure Staged where
  item : Item
  itemNumber : Nat
  style : Style
  selector : Nat
  width : Nat
  position : Option Nat
  clipped : Bool
deriving DecidableEq, Repr

/-- An entry of the on-screen list: a staged entry with its left edge `x` in units of 1/65536 pixel (spec 07 R108, R109)
and the number that tells it from every other entry of the lane (log 19). -/
structure Placed where
  entry : Staged
  x : Int
  number : Nat
deriving DecidableEq, Repr

/-- A lane. `interjections` lists the interjection contexts, the active one first; the base context is active when it
is empty and is otherwise the bottom of the stack of suspended contexts, so the context depth is its length. -/
structure Lane where
  config : LaneConfig
  owner : Nat
  geometry : Geometry
  pending : Option LaneConfig
  state : LaneState
  mode : LaneMode
  passEnd : Bool
  base : List Nat
  cursor : Nat
  interjections : List Interjection
  slot : Option Staged
  starved : Bool
  speed : Nat
  target : Nat
  step : Nat
  increment : Nat
  screen : List Placed
  faults : Nat
  lastFault : Option (Nat × StagingFault)
  crowded : Counter
  clipped : Counter
  drained : Counter
  nextNumber : Nat
deriving DecidableEq, Repr

/-! ## Renderer and keyer (spec 10) -/

/-- What an entry of a snapshot shows (spec 07 R116): text codes, a quotation of codes with palette indices or no text,
or a separator code. -/
inductive Shown where
  | text (codes : List Byte)
  | quote (codes : Option (List (Byte × Nat)))
  | separator (code : Byte)
deriving DecidableEq, Repr

/-- An entry of a snapshot; `clipped` is the renderer's working mark, which starts as the mark recorded (spec 10 R154). -/
structure SnapEntry where
  number : Nat
  position : Int
  phase : Nat
  width : Nat
  style : Style
  clipped : Bool
  shown : Shown
deriving DecidableEq, Repr

/-- A lane's snapshot (spec 07 R116): the default style selector held at that moment, the band with the values of that
style, or no band (spec 05 R65), and the entries. -/
structure Snapshot where
  top : Nat
  height : Nat
  left : Nat
  width : Nat
  staleColour : Nat
  selector : Nat
  band : Option (Nat × Nat)
  entries : List SnapEntry
deriving DecidableEq, Repr

/-- The renderer: its frame set (spec 10 R154), the next active line of the frame, and the line last mixed at the
output port with its number (log 15). -/
structure Renderer where
  frameSet : Option (Quad Snapshot)
  nextLine : Nat
  lastLine : Option (Nat × List Pixel)
deriving DecidableEq, Repr

/-- ON or OFF: the operator key wish, and the key target, whose level is 256 or 0. -/
inductive Switch where
  | on | off
deriving DecidableEq, Repr

/-- The fade source, with the guard step held while it is GUARD (spec 10 section 10.8). -/
inductive FadeSource where
  | key
  | guard (step : Nat)
deriving DecidableEq, Repr

structure Keyer where
  level : Nat
  target : Switch
  wish : Switch
  source : FadeSource
  keyFade : Nat
deriving DecidableEq, Repr

/-! ## Guard unit (spec 11) -/

inductive Cause where
  | inputLoss | feedLoss | intakeOverrun | manual
deriving DecidableEq, Repr

inductive Action where
  | clear | slate
deriving DecidableEq, Repr

/-- The configuration of a cause (spec 11 section 11.2). -/
structure CauseConfig where
  enabled : Bool
  latched : Bool
  action : Action
deriving DecidableEq, Repr

/-- The active cause set: one mark for each of the four causes (spec 11 section 11.3). -/
structure CauseSet where
  inputLoss : Bool
  feedLoss : Bool
  intakeOverrun : Bool
  manual : Bool
deriving DecidableEq, Repr

/-- NORMAL, or GUARDED with the guard action (spec 11 R174). -/
inductive GuardState where
  | normal
  | guarded (a : Action)
deriving DecidableEq, Repr

structure SlateConfig where
  item : Nat
  top : Nat
  height : Nat
  left : Nat
  right : Nat
  style : Nat
deriving DecidableEq, Repr

/-- The copies made at the last successful resolution (spec 11 R177). -/
structure ResolvedSlate where
  style : Style
  codes : List Byte
  width : Nat
deriving DecidableEq, Repr

/-- Spec 11. The slate is shown exactly while a resolved slate is held (R177, R179). -/
structure GuardUnit where
  inputLoss : CauseConfig
  feedLoss : CauseConfig
  intakeOverrun : CauseConfig
  manual : Bool
  manualAction : Option Action
  active : CauseSet
  state : GuardState
  slate : Option SlateConfig
  resolved : Option ResolvedSlate
  slateFault : Bool
  guardFade : Nat
deriving DecidableEq, Repr

/-! ## Report unit (spec 12) -/

/-- A reply: the query's sequence and the reply payload (spec 12 R185). -/
structure Reply where
  seq : Byte
  payload : List Byte
deriving DecidableEq, Repr

/-- The contents fixed for the two report lines of a frame (spec 12 R183): the output frame count, the payload of the
status report, and the replies. -/
structure ReportLines where
  count : Counter
  status : List Byte
  replies : List Reply
deriving DecidableEq, Repr

structure ReportUnit where
  replies : List Reply
  lines : Option ReportLines
deriving DecidableEq, Repr

/-! ## The whole -/

/-- The address straps and the reset pin (spec 00, pins). -/
structure Pins where
  straps : BitVec 5
  resetLow : Bool
deriving DecidableEq, Repr

/-- The state of the part. `powerOns` counts the power-on resets, so that the undefined values of the glyph slots are
fresh after each (log 9); `pending` is the queue of waiting commands, first in, first out (log 1). -/
structure State where
  input : InputUnit
  timing : OutputTiming
  intake : Intake
  engine : Engine
  glyphs : GlyphStore
  palette : Palette
  styles : Table (Option Style)
  text : List Host.Cell
  items : Table (Option Item)
  quote : QuoteUnit
  lanes : Quad Lane
  renderer : Renderer
  keyer : Keyer
  guard : GuardUnit
  report : ReportUnit
  pins : Pins
  powerOns : Nat
  pending : List Instr
deriving DecidableEq, Repr

/-- Why a step would stop with a fault: no rule of the specification names one. Every command is applied, refused with
a reason that is state (spec 02 R22), or has no effect, so no one raises a fault. -/
inductive Fault
deriving DecidableEq, Repr

/-- Why a command would have no meaning. -/
inductive Refusal where
  /-- Raised by an arm of `exec` that has no meaning yet, under the mnemonic of the table; no arm raises it. Safe. -/
  | notModelled (mnemonic : String)
deriving DecidableEq, Repr

/-! ## After power-on reset -/

/-- Spec 01 section 1.2, the column Initial. -/
def InputUnit.initial : InputUnit :=
  { state := .noSignal, lockedFormat := none, candidate := none, goodCount := 0, missCount := 0, lossFilter := 3 }

/-- Spec 01 section 1.4, the column Initial. -/
def OutputTiming.initial : OutputTiming :=
  { mode := .flywheel, format := .f1080p5994, counter := 0, starts := [], frame := none }

/-- Spec 02 section 2.2, the column Initial. -/
def Intake.initial : Intake := { queue := [], latch := false, dropped := 0, groupAddress := none }

/-- Spec 02 section 2.3, the column Initial. -/
def Engine.initial : Engine := { op := none, refusals := 0, last := none }

/-- Spec 04 R43, R46, R53, R56, with what the reset leaves in the glyph slots. -/
def GlyphStore.initial (fill : Fill) : GlyphStore :=
  { fonts := .all none, maps := .all [], fill := fill, slots := [], missing := 0 }

/-- Black: what a palette entry not listed holds (spec 04 section 4.6). -/
def Colour.black : Colour := ⟨64, 512, 512⟩

/-- Spec 04 R57: entry 1 is white, every other entry black, in both tables. -/
def Palette.initial : Palette := { written := [(1, ⟨940, 512, 512⟩)], displayed := [(1, ⟨940, 512, 512⟩)] }

/-- What a movement table entry not listed holds (spec 09 R143). -/
def Movement.initial : Movement := { colour := 1, arrow := none, flash := 0 }

/-- Spec 09 section 9.1, the column Initial, and R143. -/
def QuoteUnit.initial : QuoteUnit :=
  { symbols := [], feedAge := 0, classFilter := 0, largeThreshold := 300, staleLimit := 0, staleFrames := 0,
    feedTimeout := 0, feedFrames := 0, movement := [] }

/-- Spec 07 section 7.1, the column Initial. -/
def LaneConfig.initial : LaneConfig :=
  { top := 0, height := 48, left := 0, right := 1920, gap := 32, defaultStyle := 0, staleColour := 0 }

/-- The geometry in force before the first output frame start: that of the initial configuration in the initial output
format. DESIGN CHOICE, log 12. -/
def Geometry.initial : Geometry := { top := 0, height := 48, left := 0, right := 1920 }

/-- Spec 07 R89, R92, R97, R100, R105, R109, R118, spec 06 R82, spec 08 R120, spec 03 R38. -/
def Lane.initial : Lane :=
  { config := .initial, owner := 1, geometry := .initial, pending := none, state := .idle, mode := .loop,
    passEnd := false, base := [], cursor := 0, interjections := [], slot := none, starved := false, speed := 0,
    target := 0, step := 0, increment := 0, screen := [], faults := 0, lastFault := none, crowded := 0, clipped := 0,
    drained := 0, nextNumber := 0 }

/-- Spec 10 R154; the line counter and the output line by log 15. -/
def Renderer.initial : Renderer := { frameSet := none, nextLine := 0, lastLine := none }

/-- Spec 10 section 10.8, the column Initial. -/
def Keyer.initial : Keyer := { level := 0, target := .off, wish := .off, source := .key, keyFade := 15 }

def CauseSet.empty : CauseSet := ⟨false, false, false, false⟩

/-- Spec 11 R181 and section 11.2; the manual action by log 22. -/
def GuardUnit.initial : GuardUnit :=
  { inputLoss := ⟨true, false, .clear⟩, feedLoss := ⟨false, false, .clear⟩, intakeOverrun := ⟨false, false, .clear⟩,
    manual := false, manualAction := none, active := .empty, state := .normal, slate := none, resolved := none,
    slateFault := false, guardFade := 8 }

def ReportUnit.initial : ReportUnit := { replies := [], lines := none }

/-- The part after the `k`th power-on reset, its address straps as given and the reset pin as given. -/
def State.powerOn (k : Nat) (pins : Pins) (pending : List Instr) : State :=
  { input := .initial, timing := .initial, intake := .initial, engine := .initial,
    glyphs := .initial (.undefined k), palette := .initial, styles := [], text := [], items := [], quote := .initial,
    lanes := .all .initial, renderer := .initial, keyer := .initial, guard := .initial, report := .initial,
    pins := pins, powerOns := k, pending := pending }

/-- The part right after power-on reset (spec 01 R13, spec 02 R31): every item at its initial value, the reset pin
released (log 7), the straps at 0 (log 11), no command waiting. -/
def State.reset : State := State.powerOn 0 { straps := 0, resetLow := false } []

end Sys2Proof.Machine
end

