-- ==== Sys2Proof/Machine/Formats.lean ====
section
/-! DEFINITION. The recognised formats with their numbers (spec 01 section 1.1) and the judgement of a frame (R1). -/

namespace Sys2Proof.Machine

open Sys2Proof

/-- The eight formats in the order of the table of spec 01 section 1.1. -/
def formatList : List Format :=
  [.f2160p50, .f2160p5994, .f1080p50, .f1080p5994, .f1080p60, .f720p50, .f720p5994, .f720p60]

/-- The structure of a frame of a format, received with a complete start sequence: a row of the table of section 1.1. -/
def formatStructure : Format → FrameStructure
  | .f2160p50 => ⟨2250, 2160, 5280, 3840, 1, 50, true⟩
  | .f2160p5994 => ⟨2250, 2160, 4400, 3840, 1001, 60000, true⟩
  | .f1080p50 => ⟨1125, 1080, 2640, 1920, 1, 50, true⟩
  | .f1080p5994 => ⟨1125, 1080, 2200, 1920, 1001, 60000, true⟩
  | .f1080p60 => ⟨1125, 1080, 2200, 1920, 1, 60, true⟩
  | .f720p50 => ⟨750, 720, 1980, 1280, 1, 50, true⟩
  | .f720p5994 => ⟨750, 720, 1650, 1280, 1001, 60000, true⟩
  | .f720p60 => ⟨750, 720, 1650, 1280, 1, 60, true⟩

/-- Active picture width in pixels. -/
def activeWidth (f : Format) : Nat := (formatStructure f).activeSamples

/-- Active picture height in lines. -/
def activeLines (f : Format) : Nat := (formatStructure f).activeLines

/-- The numerator N of the frame period N/D. -/
def periodN (f : Format) : Nat := (formatStructure f).periodN

/-- The denominator D of the frame period N/D. -/
def periodD (f : Format) : Nat := (formatStructure f).periodD

/-- The structure of `fs` is that of format `f`: equal lines and samples, and an equal frame period as a ratio. -/
def matchesFormat (fs : FrameStructure) (f : Format) : Bool :=
  let r := formatStructure f
  fs.totalLines == r.totalLines && fs.activeLines == r.activeLines && fs.samplesPerLine == r.samplesPerLine &&
    fs.activeSamples == r.activeSamples && fs.periodD != 0 && fs.periodN * r.periodD == r.periodN * fs.periodD

/-- Spec 01 R1: the format of which the frame is a good frame, or none where it is not a good frame. -/
def judge (fs : FrameStructure) : Option Format :=
  if fs.completeStart then formatList.find? (matchesFormat fs) else none

/-- The place of a format in the order of section 1.1, as the status report carries it (spec 12 section 12.5). -/
def formatIndex : Format → Nat
  | .f2160p50 => 0 | .f2160p5994 => 1 | .f1080p50 => 2 | .f1080p5994 => 3
  | .f1080p60 => 4 | .f720p50 => 5 | .f720p5994 => 6 | .f720p60 => 7

end Sys2Proof.Machine
end

