-- ==== Sys2Proof/Machine/Ops.lean ====
section
/-! DEFINITION. The named operations the meanings share: addressed stores, the four-fold carriers, bit fields and byte
order, owner levels, refusals. -/

namespace Sys2Proof.Machine

open Sys2Proof

/-! ## Addressed stores -/

/-- The entry listed at `k`, if any. -/
def Table.find {α : Type} : Table α → Nat → Option α
  | [], _ => none
  | (j, v) :: t, k => if j = k then some v else Table.find t k

/-- What is read at `k`: the listed entry, or `d`, what an unlisted address reads as. -/
def Table.get {α : Type} (d : α) (t : Table α) (k : Nat) : α := (Table.find t k).getD d

/-- Lists `v` at `k`, keeping addresses strictly rising. -/
def Table.insert {α : Type} (k : Nat) (v : α) : Table α → Table α
  | [] => [(k, v)]
  | (j, w) :: t =>
    if k < j then (k, v) :: (j, w) :: t else if k = j then (k, v) :: t else (j, w) :: Table.insert k v t

/-- Takes the entry at `k` out of the list. -/
def Table.erase {α : Type} (k : Nat) : Table α → Table α
  | [] => []
  | (j, w) :: t => if k = j then t else (j, w) :: Table.erase k t

/-- Writes `v` at `k`: what an unlisted address reads as is not listed. -/
def Table.set {α : Type} [DecidableEq α] (d : α) (t : Table α) (k : Nat) (v : α) : Table α :=
  if v = d then Table.erase k t else Table.insert k v t

/-- Writes a run of contents at `k`, `k + 1`, ... -/
def Table.setRun {α : Type} [DecidableEq α] (d : α) (t : Table α) (k : Nat) : List α → Table α
  | [] => t
  | v :: vs => Table.setRun d (Table.set d t k v) (k + 1) vs

/-- The canonical form: addresses strictly rising, and nothing listed that an unlisted address reads as. -/
abbrev Table.wf {α : Type} (d : α) (t : Table α) : Prop :=
  t.Pairwise (fun a b => a.1 < b.1) ∧ ∀ e ∈ t, e.2 ≠ d

/-- What an unlisted code of the text store reads as (spec 05 R67: every code is 0 after reset). -/
def Memory.blank : Byte := 0

/-- The code at an offset of the text store. -/
def Memory.read (m : List Host.Cell) (a : Nat) : Byte := Table.get Memory.blank m a

/-- Writes a run of codes from offset `a` (spec 05 R69). -/
def Memory.writeRun (m : List Host.Cell) (a : Nat) (codes : List Byte) : List Host.Cell :=
  Table.setRun Memory.blank m a codes

/-- The codes of a run of the text store in offset order (spec 05 R70). -/
def Memory.readRun (m : List Host.Cell) (a : Nat) : Nat → List Byte
  | 0 => []
  | n + 1 => Memory.read m a :: Memory.readRun m (a + 1) n

/-- The canonical form of the text store. -/
abbrev Memory.wf (m : List Host.Cell) : Prop := Table.wf Memory.blank m

/-! ## Four-fold carriers -/

/-- The thing with number `n`; the commands check the number to be 0..3 before they use it. -/
def Quad.get {α : Type} (q : Quad α) : Nat → α
  | 0 => q.q0
  | 1 => q.q1
  | 2 => q.q2
  | _ => q.q3

/-- Replaces the thing with number `n`. -/
def Quad.set {α : Type} (q : Quad α) (n : Nat) (a : α) : Quad α :=
  match n with
  | 0 => { q with q0 := a }
  | 1 => { q with q1 := a }
  | 2 => { q with q2 := a }
  | _ => { q with q3 := a }

/-- The same change made to all four. -/
def Quad.map {α β : Type} (f : α → β) (q : Quad α) : Quad β := ⟨f q.q0, f q.q1, f q.q2, f q.q3⟩

/-- All four satisfy `p`. -/
def Quad.forAll {α : Type} (p : α → Bool) (q : Quad α) : Bool := p q.q0 && p q.q1 && p q.q2 && p q.q3

/-- The four in order. -/
def Quad.toList {α : Type} (q : Quad α) : List α := [q.q0, q.q1, q.q2, q.q3]

/-! ## Bytes -/

/-- A number as one byte, its low eight bits. -/
def byte (n : Nat) : Byte := BitVec.ofNat 8 n

/-- A number as two bytes, most significant first (spec 12 R187). -/
def bytes2 (n : Nat) : List Byte := [byte (n / 256), byte n]

/-- A number as four bytes, most significant first (spec 12 R187). -/
def bytes4 (n : Nat) : List Byte := [byte (n / 16777216), byte (n / 65536), byte (n / 256), byte n]

/-- A signed number as four bytes in two's complement (spec 12 R187). -/
def bytes4Signed (i : Int) : List Byte := bytes4 (BitVec.ofInt 32 i).toNat

/-- Two bytes as a field, most significant first. -/
def half (hi lo : Byte) : Half := hi ++ lo

/-- Four bytes as a field, most significant first. -/
def quad (a b c d : Byte) : Quad32 := a ++ b ++ c ++ d

/-- A mark as a byte of 1 or 0. -/
def flagByte (b : Bool) : Byte := if b then 1 else 0

/-- The modulo-256 sum of bytes (spec 02 section 2.1). -/
def byteSum : List Byte → Byte
  | [] => 0
  | b :: bs => b + byteSum bs

/-- ABSENT as a two-byte field (spec 12 section 12.5). -/
def absentHalf : Half := 0xFFFF

/-- `v` moved toward `target` by `step`, and at the target where one step would reach or pass it (spec 07 R106, spec 10
R165). -/
def stepToward (v target step : Nat) : Nat :=
  if v < target then min (v + step) target else max (v - step) target

/-! ## Owner levels and refusals -/

/-- Spec 03 R34 step 4: the object exists and the packet's level is numerically above its owner level. -/
def levelAbove (level : Nat) (owner : Option Nat) : Bool :=
  match owner with
  | some o => decide (o < level)
  | none => false

/-- Spec 02 R22: the refusal is counted and the last-refusal record overwritten. -/
def refuse (seq code : Byte) (r : Reason) (s : State) : State :=
  { s with engine := { s.engine with
      refusals := s.engine.refusals + 1
      last := some { seq := seq, code := code, reason := r, frameCount := s.timing.counter } } }

/-- The device address: the straps, or 30 where they give 31 (spec 02 R15). -/
def deviceAddress (s : State) : Nat := if s.pins.straps.toNat = 31 then 30 else s.pins.straps.toNat

/-- Counts codes found missing at a measurement (spec 04 R56). -/
def countMissing (n : Nat) (s : State) : State :=
  { s with glyphs := { s.glyphs with missing := s.glyphs.missing + BitVec.ofNat 32 n } }

/-- The lane with number `m`. -/
def laneOf (s : State) (m : Nat) : Lane := s.lanes.get m

/-- Replaces lane `m`. -/
def setLane (s : State) (m : Nat) (l : Lane) : State := { s with lanes := s.lanes.set m l }

/-- Every lane is IDLE (spec 04 R44, R50). -/
def allIdle (s : State) : Bool := s.lanes.forAll fun l => l.state == .idle

end Sys2Proof.Machine
end

