-- ==== Sys2Proof/Machine/Flags.lean ====
section
/-! DEFINITION. The flags and states that follow from other state: key state, cause conditions, guard state and action,
change, percent change and class, staleness, and the codes the reports carry for enumerations. -/

namespace Sys2Proof.Machine

open Sys2Proof

/-! ## Keyer -/

inductive KeyState where
  | off | fadingUp | on | fadingDown
deriving DecidableEq, Repr

/-- The level a target stands for: 256 or 0 (spec 10 section 10.8). -/
def Switch.level : Switch → Nat
  | .on => 256
  | .off => 0

/-- Spec 10 R163: the key state follows from the level and the target. -/
def keyState (k : Keyer) : KeyState :=
  match k.target with
  | .on => if k.level < 256 then .fadingUp else .on
  | .off => if 0 < k.level then .fadingDown else .off

/-! ## Causes and the guard -/

/-- Spec 09 R148: the FEED_LOSS condition. -/
def feedLossPresent (q : QuoteUnit) : Bool := q.feedFrames != 0 && decide (q.feedFrames ≤ q.feedAge)

/-- Spec 11 R168: the condition of a cause, as it stands. -/
def conditionPresent (s : State) : Cause → Bool
  | .inputLoss => s.input.state == .noSignal
  | .feedLoss => feedLossPresent s.quote
  | .intakeOverrun => s.intake.latch
  | .manual => s.guard.manual

/-- The configuration of a cause; MANUAL is fixed as enabled and LATCHED, with the manual action (spec 11 section 11.2). -/
def causeConfig (g : GuardUnit) : Cause → CauseConfig
  | .inputLoss => g.inputLoss
  | .feedLoss => g.feedLoss
  | .intakeOverrun => g.intakeOverrun
  | .manual => ⟨true, true, g.manualAction.getD .clear⟩

def CauseSet.has (c : CauseSet) : Cause → Bool
  | .inputLoss => c.inputLoss
  | .feedLoss => c.feedLoss
  | .intakeOverrun => c.intakeOverrun
  | .manual => c.manual

/-- The set with a cause in it or not. -/
def CauseSet.put (c : CauseSet) (k : Cause) (b : Bool) : CauseSet :=
  match k with
  | .inputLoss => { c with inputLoss := b }
  | .feedLoss => { c with feedLoss := b }
  | .intakeOverrun => { c with intakeOverrun := b }
  | .manual => { c with manual := b }

/-- The four causes in the order of the status report's bits (spec 12 section 12.5). -/
def allCauses : List Cause := [.inputLoss, .feedLoss, .intakeOverrun, .manual]

def CauseSet.isEmpty (c : CauseSet) : Bool := !(c.inputLoss || c.feedLoss || c.intakeOverrun || c.manual)

/-- A cause of the set has the action CLEAR. -/
def anyClear (g : GuardUnit) : Bool :=
  allCauses.any fun k => g.active.has k && (causeConfig g k).action == .clear

/-- Spec 11 R174: GUARDED exactly when the set is not empty; CLEAR if any cause in it has the action CLEAR, else SLATE. -/
def guardStateOf (g : GuardUnit) : GuardState :=
  if g.active.isEmpty then .normal else .guarded (if anyClear g then .clear else .slate)

/-- The guard is GUARDED. -/
def isGuarded (s : State) : Bool := s.guard.state != .normal

/-! ## Change, percent change and class -/

/-- Spec 09 R139: the change, 0 while no last price is present. -/
def changeOf (last : Option Nat) (reference : Nat) : Int :=
  match last with
  | some l => (l : Int) - (reference : Int)
  | none => 0

/-- Spec 09 R139: the percent change in hundredths, halves away from zero, clamped; absent where the reference is 0. -/
def percentOf (change : Int) (reference : Nat) : Option Int :=
  if reference = 0 then none
  else
    let magnitude := min ((change.natAbs * 20000 + reference) / (2 * reference)) 99999
    some (if change < 0 then -(magnitude : Int) else if change = 0 then 0 else (magnitude : Int))

/-- Spec 09 R140: the computed class. -/
def classOf (halted : Bool) (change : Int) (percent : Option Int) (large : Nat) : MoveClass :=
  if halted then .halted
  else if change = 0 then .flat
  else
    let isLarge := match percent with
      | some p => decide (large ≤ p.natAbs)
      | none => false
    if 0 < change then (if isLarge then .upLarge else .upSmall)
    else (if isLarge then .downLarge else .downSmall)

/-- Spec 09 R147: the staleness of an age against a limit in frames. -/
def staleAt (limitFrames age : Nat) : Bool := limitFrames != 0 && decide (limitFrames ≤ age)

/-! ## Codes of enumerations in the reports (spec 12 section 12.5) -/

def classIndex : MoveClass → Nat
  | .upSmall => 0 | .upLarge => 1 | .downSmall => 2 | .downLarge => 3 | .flat => 4 | .halted => 5

/-- The movement class with a given number, if there is one. -/
def classOfIndex : Nat → Option MoveClass
  | 0 => some .upSmall | 1 => some .upLarge | 2 => some .downSmall | 3 => some .downLarge | 4 => some .flat
  | 5 => some .halted | _ => none

def inputStateCode : InputState → Nat
  | .noSignal => 0 | .acquiring => 1 | .locked => 2 | .holdover => 3

def keyStateCode : KeyState → Nat
  | .off => 0 | .fadingUp => 1 | .on => 2 | .fadingDown => 3

def laneStateCode : LaneState → Nat
  | .idle => 0 | .running => 1 | .draining => 2

def laneModeCode : LaneMode → Nat
  | .loop => 0 | .singlePass => 1

def faultCode : StagingFault → Nat
  | .emptyItem => 1 | .nullStyle => 2 | .styleAbsent => 3 | .level => 4 | .limit => 5 | .noSymbol => 6

def actionCode : Action → Nat
  | .clear => 0 | .slate => 1

def reasonCode : Reason → Nat
  | .checksum => 1 | .unknown => 2 | .length => 3 | .level => 4 | .range => 5 | .state => 6 | .inUse => 7
  | .limit => 8 | .notDefined => 9 | .depth => 10 | .replyFull => 11 | .misaddressed => 12

/-- The action a payload byte names. -/
def actionOf (b : Byte) : Option Action :=
  if b = 0 then some .clear else if b = 1 then some .slate else none

/-- A two-valued payload flag. -/
def flagOf (b : Byte) : Option Bool := if b = 0 then some false else if b = 1 then some true else none

/-- The lane number a payload byte names. -/
def laneNumber (b : Byte) : Option Nat := if b.toNat < 4 then some b.toNat else none

/-- What the status report says of a lane's staging (spec 07 R119): 0 empty, 1 holding, 2 starved. -/
def stagingCode (l : Lane) : Nat := if l.slot.isSome then 1 else if l.starved then 2 else 0

end Sys2Proof.Machine
end

