-- ==== Sys2Proof/Machine/Operands.lean ====
section
/-! DEFINITION. The operand forms: the payload layouts of spec 12 section 12.5, read from bytes and written as bytes, and
the bytes of a whole control packet. -/

namespace Sys2Proof.Machine

open Sys2Proof

/-! ## Runs of fields -/

/-- A run of two-byte fields; none where a byte is left over. -/
def readHalves : List Byte → Option (List Half)
  | [] => some []
  | a :: b :: t => (readHalves t).map (half a b :: ·)
  | [_] => none

/-- A run of colours, six bytes each. -/
def readColours : List Byte → Option (List ColourField)
  | [] => some []
  | a :: b :: c :: d :: e :: f :: t => (readColours t).map (⟨half a b, half c d, half e f⟩ :: ·)
  | _ => none

/-- A run of symbol and price pairs, six bytes each. -/
def readPairs : List Byte → Option (List PriceFields)
  | [] => some []
  | a :: b :: c :: d :: e :: f :: t => (readPairs t).map (⟨half a b, quad c d e f⟩ :: ·)
  | _ => none

/-- `n` rows of 32 bytes; none where the bytes are not exactly that many. -/
def readRows : Nat → List Byte → Option (List (List Byte))
  | 0, [] => some []
  | 0, _ :: _ => none
  | n + 1, bs => if bs.length < 32 then none else (readRows n (bs.drop 32)).map (bs.take 32 :: ·)

/-! ## Consistency -/

/-- Spec 02 R21 step 3: the counts a command carries lie within its stated range of elements. (A command read from
bytes has the payload length its counts imply.) -/
def Command.consistent : Command → Bool
  | .paletteWrite _ cs => decide (1 ≤ cs.length ∧ cs.length ≤ 32)
  | .glyphRows f => decide (1 ≤ f.rows.length ∧ f.rows.length ≤ 7) && f.rows.all fun r => r.length == 32
  | .codeMapWrite f => decide (1 ≤ f.entries.length ∧ f.entries.length ≤ 112)
  | .textWrite _ cs => decide (1 ≤ cs.length ∧ cs.length ≤ 238)
  | .playlistWrite _ is => decide (is.length ≤ 116)
  | .playlistAppend _ is => decide (1 ≤ is.length ∧ is.length ≤ 116)
  | .interject _ is => decide (1 ≤ is.length ∧ is.length ≤ 8)
  | .quoteBatch ps => decide (1 ≤ ps.length ∧ ps.length ≤ 20)
  | .symbolDefine f => f.places.length == 8
  | _ => true

/-! ## Reading: one reader for each command, none where the payload is inconsistent with it -/

/-- The command where it is consistent (spec 02 R21 step 3). -/
def keepConsistent (c : Command) : Option Command := if Command.consistent c then some c else none

def readReset : List Byte → Option Command
  | [scope] => some (.reset scope)
  | _ => none

/-- An optional one-byte setting: taken from the front where its presence bit is set. -/
def takeByte (present : Bool) (bs : List Byte) : Option (Option Byte × List Byte) :=
  if present then
    match bs with
    | a :: t => some (some a, t)
    | _ => none
  else some (none, bs)

/-- An optional two-byte setting: taken from the front where its presence bit is set. -/
def takeHalf (present : Bool) (bs : List Byte) : Option (Option Half × List Byte) :=
  if present then
    match bs with
    | a :: b :: t => some (some (half a b), t)
    | _ => none
  else some (none, bs)

def readDevice : List Byte → Option Command
  | [] => none
  | p :: r0 =>
    (takeByte (p.getLsbD 0) r0).bind fun (group, r1) =>
    (takeByte (p.getLsbD 1) r1).bind fun (loss, r2) =>
    (takeByte (p.getLsbD 2) r2).bind fun (cls, r3) =>
    (takeHalf (p.getLsbD 3) r3).bind fun (large, r4) =>
    (takeHalf (p.getLsbD 4) r4).bind fun (stale, r5) =>
    (takeHalf (p.getLsbD 5) r5).bind fun (feed, r6) =>
    (takeByte (p.getLsbD 6) r6).bind fun (key, r7) =>
    (takeByte (p.getLsbD 7) r7).bind fun (guard, r8) =>
    if r8.isEmpty then some (.deviceConfig ⟨group, loss, cls, large, stale, feed, key, guard⟩) else none

def readPalette : List Byte → Option Command
  | first :: n :: t =>
    (readColours t).bind fun cs => if cs.length = n.toNat then keepConsistent (.paletteWrite first cs) else none
  | _ => none

def readFontDefine : List Byte → Option Command
  | [f, b1, b0, c1, c0, h, r, d1, d0] => some (.fontDefine ⟨f, half b1 b0, half c1 c0, h, r, half d1 d0⟩)
  | _ => none

def readFontClear : List Byte → Option Command
  | [f] => some (.fontClear f)
  | _ => none

def readMetrics : List Byte → Option Command
  | [f, g1, g0, a, b] => some (.glyphMetrics ⟨f, half g1 g0, a, b⟩)
  | _ => none

def readGlyphRows : List Byte → Option Command
  | f :: g1 :: g0 :: first :: n :: t =>
    (readRows n.toNat t).bind fun rows => keepConsistent (.glyphRows ⟨f, half g1 g0, first, rows⟩)
  | _ => none

def readCodeMap : List Byte → Option Command
  | f :: first :: n :: t =>
    (readHalves t).bind fun es => if es.length = n.toNat then keepConsistent (.codeMapWrite ⟨f, first, es⟩) else none
  | _ => none

def readStyleWrite : List Byte → Option Command
  | [s, o, f, t, b, p1, p0, l, r, q, x] => some (.styleWrite ⟨s, o, f, t, b, half p1 p0, l, r, q, x⟩)
  | _ => none

def readStyleDrop : List Byte → Option Command
  | [s] => some (.styleDrop s)
  | _ => none

def readTextWrite : List Byte → Option Command
  | o1 :: o0 :: codes => keepConsistent (.textWrite (half o1 o0) codes)
  | _ => none

def readItemWrite : List Byte → Option Command
  | [i1, i0, k, s, o1, o0, l1, l0, y1, y0, fs, c, w] =>
    some (.itemWrite ⟨half i1 i0, k, s, half o1 o0, half l1 l0, half y1 y0, fs, c, w⟩)
  | _ => none

def readItemDrop : List Byte → Option Command
  | [i1, i0] => some (.itemDrop (half i1 i0))
  | _ => none

/-- A lane, a count and that many item numbers: PLAYLIST_WRITE, PLAYLIST_APPEND and INTERJECT. -/
def readItemRun (make : Byte → List Half → Command) : List Byte → Option Command
  | m :: n :: t =>
    (readHalves t).bind fun is => if is.length = n.toNat then keepConsistent (make m is) else none
  | _ => none

def readLaneConfig : List Byte → Option Command
  | [m, o, t1, t0, h, l1, l0, r1, r0, g1, g0, d, c] =>
    some (.laneConfig ⟨m, o, half t1 t0, h, half l1 l0, half r1 r0, half g1 g0, d, c⟩)
  | _ => none

def readLaneStart : List Byte → Option Command
  | [m, mode, start] => some (.laneStart m mode start)
  | _ => none

def readLaneStop : List Byte → Option Command
  | [m, mode] => some (.laneStop m mode)
  | _ => none

def readLaneSpeed : List Byte → Option Command
  | [m, t1, t0, s1, s0] => some (.laneSpeed m (half t1 t0) (half s1 s0))
  | _ => none

def readInterjectCancel : List Byte → Option Command
  | [m] => some (.interjectCancel m)
  | _ => none

def readSymbolDefine : List Byte → Option Command
  | [y1, y0, o, n, a, b, c, d, e, f, g, h, dec, inv, r3, r2, r1, r0] =>
    some (.symbolDefine ⟨half y1 y0, o, n, [a, b, c, d, e, f, g, h], dec, inv, quad r3 r2 r1 r0⟩)
  | _ => none

def readSymbolDrop : List Byte → Option Command
  | [y1, y0] => some (.symbolDrop (half y1 y0))
  | _ => none

/-- A symbol and a price: QUOTE and REFERENCE. -/
def readPrice (make : PriceFields → Command) : List Byte → Option Command
  | [y1, y0, p3, p2, p1, p0] => some (make ⟨half y1 y0, quad p3 p2 p1 p0⟩)
  | _ => none

def readQuoteBatch : List Byte → Option Command
  | n :: t => (readPairs t).bind fun ps => if ps.length = n.toNat then keepConsistent (.quoteBatch ps) else none
  | _ => none

def readHalt : List Byte → Option Command
  | [y1, y0, f] => some (.halt (half y1 y0) f)
  | _ => none

def readMovement : List Byte → Option Command
  | [b, c, p, ap, a, f] => some (.movementWrite ⟨b, c, p, ap, a, f⟩)
  | _ => none

/-- No payload: KEY_ON, KEY_OFF and GUARD_RELEASE. -/
def readNothing (c : Command) : List Byte → Option Command
  | [] => some c
  | _ => none

def readGuardConfig : List Byte → Option Command
  | [c, e, m, a] => some (.guardConfig ⟨c, e, m, a⟩)
  | _ => none

def readSlateConfig : List Byte → Option Command
  | [c, i1, i0, t1, t0, h, l1, l0, r1, r0, s] =>
    some (.slateConfig ⟨c, half i1 i0, half t1 t0, h, half l1 l0, half r1 r0, s⟩)
  | _ => none

def readGuardSet : List Byte → Option Command
  | [a, c] => some (.guardSet a c)
  | _ => none

def readQuery : List Byte → Option Command
  | [k, i1, i0] => some (.query k (half i1 i0))
  | _ => none

/-- The command codes of spec 12 section 12.5, each with the reader of its payload. -/
def commandReaders : List (Byte × (List Byte → Option Command)) :=
  [(0x01, readReset), (0x02, readDevice), (0x10, readPalette), (0x11, readFontDefine), (0x12, readFontClear),
   (0x13, readMetrics), (0x14, readGlyphRows), (0x15, readCodeMap)] ++
  [(0x20, readStyleWrite), (0x21, readStyleDrop), (0x22, readTextWrite), (0x30, readItemWrite), (0x31, readItemDrop),
   (0x32, readItemRun .playlistWrite), (0x33, readItemRun .playlistAppend)] ++
  [(0x40, readLaneConfig), (0x41, readLaneStart), (0x42, readLaneStop), (0x43, readLaneSpeed),
   (0x44, readItemRun .interject), (0x45, readInterjectCancel)] ++
  [(0x50, readSymbolDefine), (0x51, readSymbolDrop), (0x52, readPrice .quote), (0x53, readQuoteBatch),
   (0x54, readPrice .reference), (0x55, readHalt), (0x56, readMovement)] ++
  [(0x60, readNothing .keyOn), (0x61, readNothing .keyOff), (0x70, readGuardConfig), (0x71, readSlateConfig),
   (0x72, readGuardSet), (0x73, readNothing .guardRelease), (0x7F, readQuery)]

/-- The reader of a command code, none where the code is not recognised (spec 02 R21 step 2). -/
def readerOf (code : Byte) : Option (List Byte → Option Command) := commandReaders.lookup code

/-- What a taken entry's code and payload say (spec 02 R21 steps 2 and 3). -/
inductive Reading where
  | unknown
  | badLength
  | command (c : Command)
deriving DecidableEq, Repr

/-- Reads a command from its code and payload (spec 02 R21 steps 2 and 3). -/
def readCommand (code : Byte) (payload : List Byte) : Reading :=
  match readerOf code with
  | none => .unknown
  | some reader =>
    match reader payload with
    | none => .badLength
    | some c => .command c

/-! ## Writing -/

/-- The command code (spec 12 section 12.5). -/
def Command.code : Command → Byte
  | .reset _ => 0x01
  | .deviceConfig _ => 0x02
  | .paletteWrite _ _ => 0x10
  | .fontDefine _ => 0x11
  | .fontClear _ => 0x12
  | .glyphMetrics _ => 0x13
  | .glyphRows _ => 0x14
  | .codeMapWrite _ => 0x15
  | .styleWrite _ => 0x20
  | .styleDrop _ => 0x21
  | .textWrite _ _ => 0x22
  | .itemWrite _ => 0x30
  | .itemDrop _ => 0x31
  | .playlistWrite _ _ => 0x32
  | .playlistAppend _ _ => 0x33
  | .laneConfig _ => 0x40
  | .laneStart _ _ _ => 0x41
  | .laneStop _ _ => 0x42
  | .laneSpeed _ _ _ => 0x43
  | .interject _ _ => 0x44
  | .interjectCancel _ => 0x45
  | .symbolDefine _ => 0x50
  | .symbolDrop _ => 0x51
  | .quote _ => 0x52
  | .quoteBatch _ => 0x53
  | .reference _ => 0x54
  | .halt _ _ => 0x55
  | .movementWrite _ => 0x56
  | .keyOn => 0x60
  | .keyOff => 0x61
  | .guardConfig _ => 0x70
  | .slateConfig _ => 0x71
  | .guardSet _ _ => 0x72
  | .guardRelease => 0x73
  | .query _ _ => 0x7F

/-- A two-byte field as bytes. -/
def halfBytes (h : Half) : List Byte := bytes2 h.toNat

/-- A four-byte field as bytes. -/
def quadBytes (q : Quad32) : List Byte := bytes4 q.toNat

/-- A run of two-byte fields as bytes. -/
def halvesBytes : List Half → List Byte
  | [] => []
  | h :: t => halfBytes h ++ halvesBytes t

def coloursBytes : List ColourField → List Byte
  | [] => []
  | c :: t => halfBytes c.y ++ halfBytes c.cb ++ halfBytes c.cr ++ coloursBytes t

def pairsBytes : List PriceFields → List Byte
  | [] => []
  | p :: t => halfBytes p.symbol ++ quadBytes p.price ++ pairsBytes t

def rowsBytes : List (List Byte) → List Byte
  | [] => []
  | r :: t => r ++ rowsBytes t

/-- An optional one-byte setting as bytes. -/
def optByte : Option Byte → List Byte
  | some b => [b]
  | none => []

/-- An optional two-byte setting as bytes. -/
def optHalf : Option Half → List Byte
  | some h => halfBytes h
  | none => []

/-- The presence set of DEVICE_CONFIG: bit 0 the group address to bit 7 the guard fade frames. -/
def presenceSet (f : DeviceFields) : Byte :=
  byte ((if f.groupAddress.isSome then 1 else 0) + (if f.lossFilter.isSome then 2 else 0) +
    (if f.classFilter.isSome then 4 else 0) + (if f.largeThreshold.isSome then 8 else 0) +
    (if f.staleLimit.isSome then 16 else 0) + (if f.feedTimeout.isSome then 32 else 0) +
    (if f.keyFade.isSome then 64 else 0) + (if f.guardFade.isSome then 128 else 0))

/-- The payload of a command (spec 12 section 12.5). -/
def Command.payload : Command → List Byte
  | .reset scope => [scope]
  | .deviceConfig f =>
    presenceSet f :: (optByte f.groupAddress ++ optByte f.lossFilter ++ optByte f.classFilter ++
      optHalf f.largeThreshold ++ optHalf f.staleLimit ++ optHalf f.feedTimeout ++ optByte f.keyFade ++
      optByte f.guardFade)
  | .paletteWrite first cs => first :: byte cs.length :: coloursBytes cs
  | .fontDefine f =>
    [f.font] ++ halfBytes f.base ++ halfBytes f.count ++ [f.height, f.baseline] ++ halfBytes f.defaultGlyph
  | .fontClear font => [font]
  | .glyphMetrics f => [f.font] ++ halfBytes f.index ++ [f.advance, f.bitmap]
  | .glyphRows f => [f.font] ++ halfBytes f.index ++ [f.first, byte f.rows.length] ++ rowsBytes f.rows
  | .codeMapWrite f => [f.font, f.first, byte f.entries.length] ++ halvesBytes f.entries
  | .styleWrite f =>
    [f.selector, f.owner, f.font, f.textColour, f.bandColour] ++ halfBytes f.bandOpacity ++
      [f.padLeft, f.padRight, f.reserve, f.flashColour]
  | .styleDrop selector => [selector]
  | .textWrite offset codes => halfBytes offset ++ codes
  | .itemWrite f =>
    halfBytes f.item ++ [f.kind, f.selector] ++ halfBytes f.offset ++ halfBytes f.length ++ halfBytes f.symbol ++
      [f.fieldSet, f.sepCode, f.sepWidth]
  | .itemDrop item => halfBytes item
  | .playlistWrite lane items => [lane, byte items.length] ++ halvesBytes items
  | .playlistAppend lane items => [lane, byte items.length] ++ halvesBytes items
  | .laneConfig f =>
    [f.lane, f.owner] ++ halfBytes f.top ++ [f.height] ++ halfBytes f.left ++ halfBytes f.right ++ halfBytes f.gap ++
      [f.defaultStyle, f.staleColour]
  | .laneStart lane mode start => [lane, mode, start]
  | .laneStop lane mode => [lane, mode]
  | .laneSpeed lane target step => [lane] ++ halfBytes target ++ halfBytes step
  | .interject lane items => [lane, byte items.length] ++ halvesBytes items
  | .interjectCancel lane => [lane]
  | .symbolDefine f =>
    halfBytes f.symbol ++ [f.owner, f.textLength] ++ f.places ++ [f.decimals, f.inverse] ++ quadBytes f.reference
  | .symbolDrop symbol => halfBytes symbol
  | .quote f => halfBytes f.symbol ++ quadBytes f.price
  | .quoteBatch pairs => byte pairs.length :: pairsBytes pairs
  | .reference f => halfBytes f.symbol ++ quadBytes f.price
  | .halt symbol flag => halfBytes symbol ++ [flag]
  | .movementWrite f => [f.bank, f.cls, f.colour, f.arrowPresent, f.arrow, f.flash]
  | .keyOn => []
  | .keyOff => []
  | .guardConfig f => [f.cause, f.enable, f.mode, f.action]
  | .slateConfig f =>
    [f.configure] ++ halfBytes f.item ++ halfBytes f.top ++ [f.height] ++ halfBytes f.left ++ halfBytes f.right ++
      [f.style]
  | .guardSet action cut => [action, cut]
  | .guardRelease => []
  | .query kind index => [kind] ++ halfBytes index

/-- The intake queue entry that a command's undamaged packet becomes (spec 02 section 2.2). -/
def entryOf (h : Header) (c : Command) : Entry :=
  { route := h.route, level := byte h.level, code := Command.code c, seq := h.seq, payload := Command.payload c,
    damaged := false }

/-- The bytes of a control packet from its address on, with the checksum that makes their sum 0 (spec 02 section 2.1,
spec 12 section 12.5). -/
def packetBytes (address level code seq : Byte) (payload : List Byte) : List Byte :=
  let head := [address, level, code, seq, byte payload.length] ++ payload
  head ++ [-(byteSum head)]

/-- The whole packet of a command, as the input unit finds it. -/
def packetOf (address : Byte) (h : Header) (c : Command) : Found :=
  { kind := .control, truncated := false,
    bytes := packetBytes address (byte h.level) (Command.code c) h.seq (Command.payload c) }

end Sys2Proof.Machine
end

