-- ==== Sys2Proof/Machine/Glyphs.lean ====
section
/-! DEFINITION. The glyph store (spec 04): lookup, measurement, the font and glyph commands, the completions. -/

namespace Sys2Proof.Machine

open Sys2Proof

/-! ## Slots -/

/-- A slot none of whose parts has been written since its fill. -/
def Glyph.blank (fill : Fill) : Glyph := { fill := fill, widths := none, rows := [] }

/-- Slot number `n` of the store. -/
def glyphAt (g : GlyphStore) (n : Nat) : Glyph := Table.get (Glyph.blank g.fill) g.slots n

/-- The store with slot `n` replaced. -/
def setGlyph (g : GlyphStore) (n : Nat) (x : Glyph) : GlyphStore :=
  { g with slots := Table.set (Glyph.blank g.fill) g.slots n x }

/-- What a fill gives as the widths of slot `n`; the undefined ones lie in their ranges (spec 04 R46). -/
def fillWidths (fill : Fill) (n : Nat) : Nat × Nat :=
  match fill with
  | .zero => (0, 0)
  | .undefined k =>
    ((Config.freeAdvance k n).val, min (Config.freeBitmap k n).val (Config.freeAdvance k n).val)

/-- What a fill gives as coverage. -/
def fillCoverage (fill : Fill) (n row column : Nat) : Nat :=
  match fill with
  | .zero => 0
  | .undefined k => (Config.freeCoverage k n row column).val

/-- Advance width of slot `n`. -/
def advanceOf (g : GlyphStore) (n : Nat) : Nat :=
  ((glyphAt g n).widths.getD (fillWidths (glyphAt g n).fill n)).1

/-- Bitmap width of slot `n`. -/
def bitmapOf (g : GlyphStore) (n : Nat) : Nat :=
  ((glyphAt g n).widths.getD (fillWidths (glyphAt g n).fill n)).2

/-- Coverage of slot `n` at a row and a column. -/
def coverageOf (g : GlyphStore) (n row column : Nat) : Nat :=
  match Table.find (glyphAt g n).rows row with
  | some (.written columns) => columns.getD column 0
  | some (.undefined k) => fillCoverage (.undefined k) n row column
  | none => fillCoverage (glyphAt g n).fill n row column

/-- 64 values of 0: a row of a slot filled with zero. -/
def zeroRow : List Nat := List.replicate 64 0

/-- A slot with its widths written. -/
def Glyph.withWidths (x : Glyph) (advance bitmap : Nat) : Glyph :=
  { x with widths := if x.fill = .zero ∧ (advance, bitmap) = (0, 0) then none else some (advance, bitmap) }

/-- A slot with one row written. -/
def Glyph.withRow (x : Glyph) (row : Nat) (values : List Nat) : Glyph :=
  { x with rows := if x.fill = .zero ∧ values = zeroRow then Table.erase row x.rows
                   else Table.insert row (.written values) x.rows }

/-- A slot with a run of rows written from row `first`. -/
def Glyph.withRows (x : Glyph) (first : Nat) : List (List Nat) → Glyph
  | [] => x
  | r :: rs => Glyph.withRows (Glyph.withRow x first r) (first + 1) rs

/-- The columns of a row as GLYPH_ROWS carries it: two to a byte, the even column in the high four bits (spec 12). -/
def rowColumns : List Byte → List Nat
  | [] => []
  | b :: t => b.toNat / 16 :: b.toNat % 16 :: rowColumns t

/-- Every slot of a run cleared (spec 04 R51). -/
def clearRun (g : GlyphStore) (base : Nat) : Nat → GlyphStore
  | 0 => g
  | n + 1 => clearRun (setGlyph g base (Glyph.blank .zero)) (base + 1) n

/-! ## Lookup and measurement -/

/-- Spec 04 R54: the slot a character code reaches in font `f`, or none where it is missing. -/
def lookup (g : GlyphStore) (f : Nat) (c : Byte) : Option Nat :=
  match g.fonts.get f with
  | none => none
  | some d =>
    match Table.get none (g.maps.get f) c.toNat with
    | some i => if i < d.count then some (d.base + i) else
        (match d.defaultGlyph with
         | some j => if j < d.count then some (d.base + j) else none
         | none => none)
    | none =>
        (match d.defaultGlyph with
         | some j => if j < d.count then some (d.base + j) else none
         | none => none)

/-- Spec 04 R55: the total of the advance widths of a sequence of codes. -/
def advanceTotal (g : GlyphStore) (f : Nat) : List Byte → Nat
  | [] => 0
  | c :: cs =>
    (match lookup g f c with
     | some n => advanceOf g n
     | none => 0) + advanceTotal g f cs

/-- Spec 04 R55: how many codes of the sequence are missing. -/
def missingTotal (g : GlyphStore) (f : Nat) : List Byte → Nat
  | [] => 0
  | c :: cs => (if (lookup g f c).isNone then 1 else 0) + missingTotal g f cs

/-! ## Commands -/

/-- The font a packet names, where its number is 0..3 and it is defined (spec 04 R47, R48, R50). -/
def definedFont (s : State) (font : Byte) : Option FontDef :=
  if font.toNat < 4 then s.glyphs.fonts.get font.toNat else none

/-- An index or ABSENT as a field carries it; none where it is neither (spec 04 R44, R53). -/
def indexField (h : Half) : Option (Option Nat) :=
  if h = absentHalf then some none else if h.toNat < 1024 then some (some h.toNat) else none

/-- FONT_DEFINE: spec 04 R44, R45. -/
def doFontDefine (h : Header) (f : FontFields) (s : State) : Except Reason State :=
  if 0 < h.level then .error .level
  else if 3 < f.font.toNat then .error .range
  else if 1023 < f.base.toNat then .error .range
  else if f.count.toNat < 1 ∨ 1024 < f.base.toNat + f.count.toNat then .error .range
  else
    match indexField f.defaultGlyph with
    | none => .error .range
    | some d =>
      if allIdle s then
        let height := clampTo 8 64 f.height.toNat
        .ok { s with glyphs := { s.glyphs with
          fonts := s.glyphs.fonts.set f.font.toNat (some
            { base := f.base.toNat, count := f.count.toNat, height := height,
              baseline := clampTo 0 (height - 1) f.baseline.toNat, defaultGlyph := d }) } }
      else .error .inUse

/-- FONT_CLEAR at its taking: spec 04 R50, spec 02 R24. -/
def doFontClear (h : Header) (font : Byte) (s : State) : Except Reason State :=
  if 0 < h.level then .error .level
  else
    match definedFont s font with
    | none => .error .range
    | some d =>
      if allIdle s then
        .ok { s with engine := { s.engine with op := some (.fontClear font.toNat d.base d.count) } }
      else .error .inUse

/-- GLYPH_METRICS: spec 04 R47. -/
def doGlyphMetrics (h : Header) (f : MetricsFields) (s : State) : Except Reason State :=
  if 1 < h.level then .error .level
  else
    match definedFont s f.font with
    | none => .error .range
    | some d =>
      if f.index.toNat < d.count then
        let advance := clampTo 0 64 f.advance.toNat
        let bitmap := min (clampTo 0 64 f.bitmap.toNat) advance
        let slot := d.base + f.index.toNat
        .ok { s with glyphs := setGlyph s.glyphs slot (Glyph.withWidths (glyphAt s.glyphs slot) advance bitmap) }
      else .error .range

/-- GLYPH_ROWS at its taking: spec 04 R48, spec 02 R24. -/
def doGlyphRows (h : Header) (f : RowsFields) (s : State) : Except Reason State :=
  if 1 < h.level then .error .level
  else
    match definedFont s f.font with
    | none => .error .range
    | some d =>
      if d.count ≤ f.index.toNat then .error .range
      else if 64 < f.first.toNat + f.rows.length then .error .range
      else .ok { s with engine := { s.engine with op := some (.glyphRows f (d.base + f.index.toNat)) } }

/-- CODE_MAP_WRITE: spec 04 R53. -/
def doCodeMapWrite (h : Header) (f : CodeMapFields) (s : State) : Except Reason State :=
  if 1 < h.level then .error .level
  else if 3 < f.font.toNat then .error .range
  else if 256 < f.first.toNat + f.entries.length then .error .range
  else if f.entries.all fun e => (indexField e).isSome then
    let map := Table.setRun none (s.glyphs.maps.get f.font.toNat) f.first.toNat
      (f.entries.map fun e => (indexField e).getD none)
    .ok { s with glyphs := { s.glyphs with maps := s.glyphs.maps.set f.font.toNat map } }
  else .error .range

/-! ## Completions -/

/-- Spec 04 R49: the rows of the in-flight GLYPH_ROWS, written all together. -/
def writeRows (g : GlyphStore) (f : RowsFields) (slot : Nat) : GlyphStore :=
  setGlyph g slot (Glyph.withRows (glyphAt g slot) f.first.toNat (f.rows.map rowColumns))

/-- What the completion of an in-flight operation does to the glyph store (spec 04 R49, R51). -/
def completeOp (g : GlyphStore) : InFlight → GlyphStore
  | .glyphRows f slot => writeRows g f slot
  | .fontClear _ base count => clearRun g base count

/-! ## Power-on reset -/

/-- A slot with `count` rows from row `first` left undefined by the power-on reset numbered `k`. -/
def Glyph.undefineRows (k : Nat) (x : Glyph) (first : Nat) : Nat → Glyph
  | 0 => x
  | count + 1 =>
    Glyph.undefineRows k { x with rows := Table.insert first (.undefined k) x.rows } (first + 1) count

/-- The slots that the power-on reset numbered `k` does not leave wholly undefined: that of a GLYPH_ROWS in flight keeps
its widths and the rows that were not being written (spec 04 R49, R46, log 10). -/
def abandonedSlots (k : Nat) (g : GlyphStore) (op : Option InFlight) : Table Glyph :=
  match op with
  | some (.glyphRows f slot) =>
    Table.set (Glyph.blank (.undefined k)) [] slot
      (Glyph.undefineRows k (glyphAt g slot) f.first.toNat f.rows.length)
  | _ => []

end Sys2Proof.Machine
end

