-- ==== Sys2Proof/Machine/Items.lean ====
section
/-! DEFINITION. The item table (spec 06 sections 6.1 to 6.4). -/

namespace Sys2Proof.Machine

open Sys2Proof

/-- The item record with a number; none is kind NONE. -/
def itemAt (s : State) (n : Nat) : Option Item := Table.get none s.items n

/-- The table with an item record replaced. -/
def setItem (s : State) (n : Nat) (x : Option Item) : State := { s with items := Table.set none s.items n x }

/-- The field set of a QUOTE item: it contains SYMBOL and holds nothing beyond the five fields (spec 06 R75 step 6). -/
def fieldSetOf (b : Byte) : Option FieldSet :=
  if b.getLsbD 0 && b.toNat < 32 then
    some { price := b.getLsbD 1, arrow := b.getLsbD 2, change := b.getLsbD 3, percent := b.getLsbD 4 }
  else none

/-- A field set as a byte: bit 0 SYMBOL to bit 4 PERCENT (spec 12 section 12.5). -/
def fieldSetByte (f : FieldSet) : Byte :=
  byte (1 + (if f.price then 2 else 0) + (if f.arrow then 4 else 0) + (if f.change then 8 else 0) +
    (if f.percent then 16 else 0))

/-- The part of an ITEM_WRITE that belongs to its kind, where its values are in range (spec 06 R75 steps 5 and 6). -/
def itemBodyOf (f : ItemFields) : Option ItemBody :=
  if f.kind = 1 then
    if f.offset.toNat ≤ 32767 ∧ 1 ≤ f.length.toNat ∧ f.length.toNat ≤ 1024 then
      some (.text f.offset.toNat f.length.toNat)
    else none
  else if f.kind = 2 then
    if f.symbol.toNat ≤ 511 then (fieldSetOf f.fieldSet).map (.quote f.symbol.toNat) else none
  else some (.separator f.sepCode (clampTo 1 255 f.sepWidth.toNat))

/-- ITEM_WRITE: spec 06 R75, R76, spec 03 R36. -/
def doItemWrite (h : Header) (f : ItemFields) (s : State) : Except Reason State :=
  if 1023 < f.item.toNat then .error .range
  else if levelAbove h.level ((itemAt s f.item.toNat).map Item.owner) then .error .level
  else if f.kind.toNat < 1 ∨ 3 < f.kind.toNat then .error .range
  else if 63 < f.selector.toNat then .error .range
  else
    match itemBodyOf f with
    | none => .error .range
    | some body =>
      .ok (setItem s f.item.toNat (some { owner := h.level, selector := f.selector.toNat, body := body }))

/-- ITEM_DROP: spec 06 R80. -/
def doItemDrop (h : Header) (item : Half) (s : State) : Except Reason State :=
  if 1023 < item.toNat then .error .range
  else
    match itemAt s item.toNat with
    | none => .error .notDefined
    | some x => if x.owner < h.level then .error .level else .ok (setItem s item.toNat none)

end Sys2Proof.Machine
end

