-- ==== Sys2Proof/Machine/Styles.lean ====
section
/-! DEFINITION. The style table and the text store (spec 05). -/

namespace Sys2Proof.Machine

open Sys2Proof

/-- The descriptor at a selector, if it is present (spec 05 section 5.1). -/
def styleAt (s : State) (selector : Nat) : Option Style := Table.get none s.styles selector

/-- The table with the descriptor at a selector replaced. -/
def setStyle (s : State) (selector : Nat) (x : Option Style) : State :=
  { s with styles := Table.set none s.styles selector x }

/-- The descriptor a STYLE_WRITE stores (spec 05 R62, spec 03 R35). -/
def styleOf (h : Header) (f : StyleFields) : Style :=
  { owner := max f.owner.toNat h.level, font := f.font.toNat, textColour := f.textColour.toNat,
    bandColour := f.bandColour.toNat, bandOpacity := clampTo 0 256 f.bandOpacity.toNat, padLeft := f.padLeft.toNat,
    padRight := f.padRight.toNat, reserve := f.reserve.toNat, flashColour := f.flashColour.toNat }

/-- The selector names a descriptor that can be written: 1..63 (spec 03 R34 step 2). -/
def styleSelectorOk (selector : Byte) : Bool := decide (1 ≤ selector.toNat ∧ selector.toNat ≤ 63)

/-- STYLE_WRITE: spec 05 R61, R62. -/
def doStyleWrite (h : Header) (f : StyleFields) (s : State) : Except Reason State :=
  if !styleSelectorOk f.selector then .error .range
  else if levelAbove h.level ((styleAt s f.selector.toNat).map Style.owner) then .error .level
  else if 3 < f.owner.toNat then .error .range
  else if 3 < f.font.toNat then .error .range
  else if 63 < f.textColour.toNat ∨ 63 < f.bandColour.toNat ∨ 63 < f.flashColour.toNat then .error .range
  else .ok (setStyle s f.selector.toNat (some (styleOf h f)))

/-- STYLE_DROP: spec 05 R63. -/
def doStyleDrop (h : Header) (selector : Byte) (s : State) : Except Reason State :=
  if !styleSelectorOk selector then .error .range
  else
    match styleAt s selector.toNat with
    | none => .error .notDefined
    | some x => if x.owner < h.level then .error .level else .ok (setStyle s selector.toNat none)

/-- TEXT_WRITE: spec 05 R68, R69. -/
def doTextWrite (h : Header) (offset : Half) (codes : List Byte) (s : State) : Except Reason State :=
  if 2 < h.level then .error .level
  else if 32768 < offset.toNat + codes.length then .error .limit
  else .ok { s with text := Memory.writeRun s.text offset.toNat codes }

end Sys2Proof.Machine
end

