-- ==== Sys2Proof/Machine/Symbols.lean ====
section
/-! DEFINITION. The symbol table and the quote unit: commands, derived fields, ageing (spec 09 sections 9.1 to 9.7). -/

namespace Sys2Proof.Machine

open Sys2Proof

/-- The record of a symbol; none is undefined. -/
def symbolAt (q : QuoteUnit) (n : Nat) : Option Symbol := Table.get none q.symbols n

/-- The unit with a symbol record replaced. -/
def setSymbol (q : QuoteUnit) (n : Nat) (x : Option Symbol) : QuoteUnit :=
  { q with symbols := Table.set none q.symbols n x }

/-- The number of a movement table entry: bank A 0..5, bank B 6..11, in class order (spec 09 R153). -/
def movementIndex (bankB : Bool) (c : MoveClass) : Nat := (if bankB then 6 else 0) + classIndex c

/-- The movement entry of a number. -/
def movementAt (q : QuoteUnit) (i : Nat) : Movement := Table.get Movement.initial q.movement i

/-- The movement entry of a symbol: its displayed class, in bank B where its inverse flag is set (spec 09 R142, R151). -/
def symbolMovement (q : QuoteUnit) (x : Symbol) : Movement := movementAt q (movementIndex x.inverse x.displayed)

/-! ## Derived fields -/

/-- The change, percent change and computed class computed again: spec 09 R139, R140. -/
def recomputeSymbol (large : Nat) (x : Symbol) : Symbol :=
  let change := changeOf x.last x.reference
  let percent := percentOf change x.reference
  { x with change := change, percent := percent, computed := classOf x.halted change percent large }

/-- The class filter: spec 09 R141, for the computed class as it stands. -/
def filterClass (filter : Nat) (x : Symbol) : Symbol :=
  if filter ≤ 1 then { x with displayed := x.computed, candidate := none, agree := 0 }
  else if x.computed = x.displayed then { x with candidate := none, agree := 0 }
  else if x.candidate = some x.computed then
    if filter ≤ x.agree + 1 then { x with displayed := x.computed, candidate := none, agree := 0 }
    else { x with agree := x.agree + 1 }
  else { x with candidate := some x.computed, agree := 1 }

/-- A price clamped to its range (spec 09 R132, R135, R137). -/
def clampPrice (p : Quad32) : Nat := clampTo 0 99999999 p.toNat

/-- An accepted quote applied to a symbol: spec 09 R135 steps 1 to 5. -/
def quoteSymbol (q : QuoteUnit) (price : Nat) (x : Symbol) : Symbol :=
  let changed : Bool := match x.last with
    | some l => l != price
    | none => false
  let x1 := filterClass q.classFilter (recomputeSymbol q.largeThreshold { x with last := some price })
  let x2 := if changed then { x1 with flash := (symbolMovement q x1).flash } else x1
  { x2 with age := 0, stale := false }

/-! ## Checks -/

/-- The symbol a packet names: spec 03 R37. -/
def checkedSymbol (h : Header) (symbol : Half) (s : State) : Except Reason Symbol :=
  if 511 < symbol.toNat then .error .range
  else
    match symbolAt s.quote symbol.toNat with
    | none => .error .notDefined
    | some x => if x.owner < h.level then .error .level else .ok x

/-! ## Commands -/

/-- The record a SYMBOL_DEFINE makes: spec 09 R133. -/
def symbolOf (h : Header) (f : SymbolFields) : Symbol :=
  let reference := clampPrice f.reference
  { owner := max f.owner.toNat h.level, text := f.places.take f.textLength.toNat,
    decimals := clampTo 0 4 f.decimals.toNat, inverse := f.inverse == 1, reference := reference, last := none,
    change := 0, percent := if reference = 0 then none else some 0, computed := .flat, displayed := .flat,
    candidate := none, agree := 0, halted := false, flash := 0, age := 0, stale := false }

/-- SYMBOL_DEFINE: spec 09 R132, R133. -/
def doSymbolDefine (h : Header) (f : SymbolFields) (s : State) : Except Reason State :=
  if 1 < h.level then .error .level
  else if 511 < f.symbol.toNat then .error .range
  else if levelAbove h.level ((symbolAt s.quote f.symbol.toNat).map Symbol.owner) then .error .level
  else if 3 < f.owner.toNat then .error .range
  else if f.textLength.toNat < 1 ∨ 8 < f.textLength.toNat then .error .range
  else if 1 < f.inverse.toNat then .error .range
  else .ok { s with quote := setSymbol s.quote f.symbol.toNat (some (symbolOf h f)) }

/-- SYMBOL_DROP: spec 09 R134. -/
def doSymbolDrop (h : Header) (symbol : Half) (s : State) : Except Reason State :=
  if 1 < h.level then .error .level
  else
    match checkedSymbol h symbol s with
    | .error r => .error r
    | .ok _ => .ok { s with quote := setSymbol s.quote symbol.toNat none }

/-- A quote of a symbol that has passed its checks: spec 09 R135. -/
def applyQuote (symbol : Half) (price : Quad32) (x : Symbol) (s : State) : State :=
  { s with quote := { setSymbol s.quote symbol.toNat (some (quoteSymbol s.quote (clampPrice price) x)) with
      feedAge := 0 } }

/-- QUOTE: spec 09 R135. -/
def doQuote (h : Header) (f : PriceFields) (s : State) : Except Reason State :=
  match checkedSymbol h f.symbol s with
  | .error r => .error r
  | .ok x => .ok (applyQuote f.symbol f.price x s)

/-- One pair of a QUOTE_BATCH: spec 09 R136, spec 03 R37. -/
def batchPair (h : Header) (f : PriceFields) (s : State) : State :=
  match checkedSymbol h f.symbol s with
  | .error r => refuse h.seq 0x53 r s
  | .ok x => applyQuote f.symbol f.price x s

/-- The pairs of a QUOTE_BATCH in payload order: spec 09 R136. -/
def batchPairs (h : Header) : List PriceFields → State → State
  | [], s => s
  | f :: fs, s => batchPairs h fs (batchPair h f s)

/-- QUOTE_BATCH: spec 09 R136. -/
def doQuoteBatch (h : Header) (pairs : List PriceFields) (s : State) : Except Reason State :=
  .ok (batchPairs h pairs s)

/-- REFERENCE: spec 09 R137. -/
def doReference (h : Header) (f : PriceFields) (s : State) : Except Reason State :=
  match checkedSymbol h f.symbol s with
  | .error r => .error r
  | .ok x =>
    let x1 := filterClass s.quote.classFilter
      (recomputeSymbol s.quote.largeThreshold { x with reference := clampPrice f.price })
    .ok { s with quote := setSymbol s.quote f.symbol.toNat (some x1) }

/-- The symbol with its halted flag set or cleared and the class shown directly: spec 09 R138. -/
def haltSymbol (q : QuoteUnit) (on : Bool) (x : Symbol) : Symbol :=
  let x1 := recomputeSymbol q.largeThreshold { x with halted := on }
  { x1 with displayed := x1.computed, candidate := none, agree := 0 }

/-- HALT: spec 09 R138. -/
def doHalt (h : Header) (symbol : Half) (flag : Byte) (s : State) : Except Reason State :=
  match checkedSymbol h symbol s with
  | .error r => .error r
  | .ok x =>
    match flagOf flag with
    | none => .error .range
    | some on => .ok { s with quote := setSymbol s.quote symbol.toNat (some (haltSymbol s.quote on x)) }

/-- MOVEMENT_WRITE: spec 09 R143. -/
def doMovementWrite (h : Header) (f : MovementFields) (s : State) : Except Reason State :=
  if 1 < h.level then .error .level
  else
    match flagOf f.bank with
    | none => .error .range
    | some bankB =>
      match classOfIndex f.cls.toNat with
      | none => .error .range
      | some c =>
        if 63 < f.colour.toNat then .error .range
        else
          match flagOf f.arrowPresent with
          | none => .error .range
          | some arrow =>
            let e : Movement := { colour := f.colour.toNat, arrow := if arrow then some f.arrow else none,
                                  flash := clampTo 0 120 f.flash.toNat }
            .ok { s with quote := { s.quote with
              movement := Table.set Movement.initial s.quote.movement (movementIndex bankB c) e } }

/-! ## Time in frames -/

/-- Seconds in output frames of a format, halves up: spec 09 R144. -/
def framesOf (f : Format) (seconds : Nat) : Nat :=
  (2 * seconds * periodD f + periodN f) / (2 * periodN f)

/-- A change made to every defined symbol. -/
def mapSymbols (g : Symbol → Symbol) (t : Table (Option Symbol)) : Table (Option Symbol) :=
  t.map fun e => (e.1, e.2.map g)

/-- Every stale flag evaluated against the limit in frames: spec 09 R147. -/
def evaluateStale (q : QuoteUnit) : QuoteUnit :=
  { q with symbols := mapSymbols (fun x => { x with stale := staleAt q.staleFrames x.age }) q.symbols }

/-- The two limits in frames computed again for a format, and every stale flag evaluated: spec 09 R144. -/
def recomputeLimits (f : Format) (q : QuoteUnit) : QuoteUnit :=
  evaluateStale { q with staleFrames := framesOf f q.staleLimit, feedFrames := framesOf f q.feedTimeout }

/-- Stages 2 to 4 of the quote unit for one symbol: spec 09 R146. -/
def ageSymbol (limitFrames : Nat) (x : Symbol) : Symbol :=
  let age := min (x.age + 1) 65535
  { x with age := age, stale := staleAt limitFrames age, flash := x.flash - 1 }

/-- The quote unit at an output frame start: spec 09 R146. -/
def quoteFrame (f : Format) (changed : Bool) (q : QuoteUnit) : QuoteUnit :=
  let q1 := if changed then recomputeLimits f q else q
  { q1 with symbols := mapSymbols (ageSymbol q1.staleFrames) q1.symbols, feedAge := min (q1.feedAge + 1) 65535 }

/-! ## Formatting a quotation -/

/-- A decimal digit as a code. -/
def digitCode (d : Nat) : Byte := byte (0x30 + d % 10)

/-- The decimal digits of a number with no leading zero and at least one digit; `fuel` bounds their count. -/
def decimalDigits : Nat → Nat → List Byte
  | 0, n => [digitCode n]
  | fuel + 1, n => if n < 10 then [digitCode n] else decimalDigits fuel (n / 10) ++ [digitCode n]

/-- Exactly `k` digits of a number, with leading zeros. -/
def fixedDigits : Nat → Nat → List Byte
  | 0, _ => []
  | k + 1, n => fixedDigits k (n / 10) ++ [digitCode n]

/-- A magnitude written with `k` decimals: spec 09 R150. -/
def formatNumber (m k : Nat) : List Byte :=
  decimalDigits m (m / 10 ^ k) ++ if k = 0 then [] else 0x2E :: fixedDigits k (m % 10 ^ k)

/-- The sign code of a change; 0 has none: spec 09 R149. -/
def signCodes (change : Int) : List Byte :=
  if 0 < change then [0x2B] else if change < 0 then [0x2D] else []

/-- Codes with one palette index for each. -/
def painted (index : Nat) (codes : List Byte) : List (Byte × Nat) := codes.map fun c => (c, index)

/-- The parts of a quotation that have a value, in order, each with the palette index of its codes: spec 09 R149, R151. -/
def quoteParts (q : QuoteUnit) (x : Symbol) (fields : FieldSet) (style : Style) (staleColour : Nat) :
    List (Nat × List Byte) :=
  let m := symbolMovement q x
  let plain := if x.stale then staleColour else m.colour
  let priceColour := if x.stale then staleColour else if 0 < x.flash then style.flashColour else m.colour
  let price := match x.last with
    | some l => if fields.price then [(priceColour, formatNumber l x.decimals)] else []
    | none => []
  let arrow := match m.arrow with
    | some a => if fields.arrow && !x.stale then [(m.colour, [a])] else []
    | none => []
  let change := if fields.change && x.last.isSome then
      [(plain, signCodes x.change ++ formatNumber x.change.natAbs x.decimals)] else []
  let percent := match x.percent with
    | some p => if fields.percent && x.last.isSome then
        [(plain, signCodes x.change ++ formatNumber p.natAbs 2 ++ [0x25])] else []
    | none => []
  (style.textColour, x.text) :: (price ++ arrow ++ change ++ percent)

/-- Parts joined by one space each, the space in the palette index of the part before it: spec 09 R149, R151. -/
def joinParts : List (Nat × List Byte) → List (Byte × Nat)
  | [] => []
  | [(i, codes)] => painted i codes
  | (i, codes) :: p :: ps => painted i codes ++ (0x20, i) :: joinParts (p :: ps)

/-- The formatted quotation: spec 09 R149 to R151. -/
def formatQuote (q : QuoteUnit) (x : Symbol) (fields : FieldSet) (style : Style) (staleColour : Nat) :
    List (Byte × Nat) :=
  joinParts (quoteParts q x fields style staleColour)

end Sys2Proof.Machine
end

