-- ==== Sys2Proof/Machine/Staging.lean ====
section
/-! DEFINITION. Staging: the refill walk, its checks, faults, measurement, the ends of lists and the exhaustion of
interjections (spec 07 section 7.3, spec 03 section 3.5, spec 08 section 8.3). -/

namespace Sys2Proof.Machine

open Sys2Proof

/-! ## The checks of an entry -/

/-- What an entry that passes its checks will be staged from. -/
structure Candidate where
  item : Item
  itemNumber : Nat
  style : Style
  selector : Nat
deriving DecidableEq, Repr

/-- The style tests: spec 03 R40. -/
def resolveStyle (s : State) (l : Lane) (i : Item) : Except StagingFault (Nat × Style) :=
  let selector := if i.selector ≠ 0 then i.selector else l.config.defaultStyle
  if selector = 0 then .error .nullStyle
  else
    match styleAt s selector with
    | none => .error .styleAbsent
    | some x => if x.owner < max i.owner l.owner then .error .level else .ok (selector, x)

/-- The tests of the kind: spec 07 R99 steps 3 and 4. -/
def testBody (s : State) : ItemBody → Except StagingFault Unit
  | .text offset length => if 32768 < offset + length then .error .limit else .ok ()
  | .quote symbol _ => if (symbolAt s.quote symbol).isNone then .error .noSymbol else .ok ()
  | .separator _ _ => .ok ()

/-- The tests of an entry in order: spec 07 R99. -/
def testEntry (s : State) (l : Lane) (n : Nat) : Except StagingFault Candidate :=
  match itemAt s n with
  | none => .error .emptyItem
  | some i =>
    match resolveStyle s l i with
    | .error e => .error e
    | .ok (selector, x) =>
      match testBody s i.body with
      | .error e => .error e
      | .ok () => .ok { item := i, itemNumber := n, style := x, selector := selector }

/-! ## Measurement -/

/-- The codes a candidate is measured by; a separator has none (spec 07 R104, spec 06 R79). -/
def measuredCodes (s : State) (l : Lane) (c : Candidate) : List Byte :=
  match c.item.body with
  | .text offset length => Memory.readRun s.text offset length
  | .quote symbol fields =>
    match symbolAt s.quote symbol with
    | some x => (formatQuote s.quote x fields c.style l.config.staleColour).map Prod.fst
    | none => []
  | .separator _ _ => []

/-- The slot width: spec 07 R104. -/
def slotWidth (s : State) (l : Lane) (c : Candidate) : Nat :=
  let total := advanceTotal s.glyphs c.style.font (measuredCodes s l c)
  clampTo 1 16383 (match c.item.body with
    | .text _ _ => c.style.padLeft + total + c.style.padRight
    | .quote _ _ => c.style.padLeft + total + c.style.reserve + c.style.padRight
    | .separator _ width => width)

/-- The staged entry formed from a candidate: spec 07 R97, R101. -/
def stagedOf (s : State) (l : Lane) (c : Candidate) (position : Option Nat) : Staged :=
  { item := c.item, itemNumber := c.itemNumber, style := c.style, selector := c.selector, width := slotWidth s l c,
    position := position, clipped := false }

/-- How many codes the measurement of a candidate finds missing: spec 04 R56. -/
def candidateMissing (s : State) (l : Lane) (c : Candidate) : Nat :=
  missingTotal s.glyphs c.style.font (measuredCodes s l c)

/-! ## The walk -/

/-- What a walk over a run of entries finds: the faults of the entries skipped, oldest first, and the candidate that
ended the walk, if any. The entry that passed stands as many places on as there are faults. -/
structure Walk where
  faults : List (Nat × StagingFault)
  hit : Option Candidate
deriving DecidableEq, Repr

/-- Examines entries in turn up to the first that passes: spec 07 R99. -/
def walk (s : State) (l : Lane) : List Nat → Walk
  | [] => { faults := [], hit := none }
  | n :: ns =>
    match testEntry s l n with
    | .ok c => { faults := [], hit := some c }
    | .error e =>
      match walk s l ns with
      | ⟨fs, hit⟩ => { faults := (n, e) :: fs, hit := hit }

/-- A skipped entry counted and recorded: spec 07 R100. -/
def recordFault (l : Lane) (f : Nat × StagingFault) : Lane :=
  { l with faults := min (l.faults + 1) 65535, lastFault := some f }

/-- The skipped entries of a walk counted and recorded in order. -/
def recordFaults (l : Lane) (fs : List (Nat × StagingFault)) : Lane := fs.foldl recordFault l

/-- Entry to DRAINING: spec 07 R94, and R102 at the end of a SINGLE_PASS list. -/
def enterDraining (l : Lane) : Lane :=
  { l with state := .draining, slot := none, starved := false, passEnd := false, interjections := [] }

/-- The walk of the base context: spec 07 R102, R103. Answers the lane and the codes found missing. -/
def refillBase (s : State) (l : Lane) : Lane × Nat :=
  match l.mode with
  | .loop =>
    if l.base.isEmpty then ({ l with slot := none, starved := false, cursor := 0 }, 0)
    else
      let w := walk s l (l.base.drop l.cursor ++ l.base.take l.cursor)
      let l1 := recordFaults l w.faults
      match w.hit with
      | none => ({ l1 with starved := true }, 0)
      | some c =>
        let at_ := (l.cursor + w.faults.length) % l.base.length
        ({ l1 with slot := some (stagedOf s l c (some at_)), starved := false, cursor := (at_ + 1) % l.base.length },
          candidateMissing s l c)
  | .singlePass =>
    if l.base.isEmpty then (enterDraining { l with cursor := 0 }, 0)
    else
      let w := walk s l (l.base.drop l.cursor)
      let l1 := recordFaults l w.faults
      match w.hit with
      | none => (enterDraining { l1 with cursor := 0 }, 0)
      | some c =>
        let at_ := l.cursor + w.faults.length
        let ended := decide (l.base.length ≤ at_ + 1)
        ({ l1 with slot := some (stagedOf s l c (some at_)), starved := false,
                   cursor := if ended then 0 else at_ + 1, passEnd := l.passEnd || ended },
          candidateMissing s l c)

/-- The walk of the active context and of those below it: spec 08 R125. `below` are the interjection contexts from the
active one down. -/
def refillContexts (s : State) (l : Lane) : List Interjection → Lane × Nat
  | [] => refillBase s { l with interjections := [] }
  | i :: below =>
    let w := walk s l (i.items.drop i.cursor)
    let l1 := recordFaults l w.faults
    match w.hit with
    | none => refillContexts s l1 below
    | some c =>
      let at_ := i.cursor + w.faults.length
      if i.items.length ≤ at_ + 1 then
        ({ l1 with slot := some (stagedOf s l c none), starved := false, interjections := below },
          candidateMissing s l c)
      else
        ({ l1 with slot := some (stagedOf s l c (some at_)), starved := false,
                   interjections := { i with cursor := at_ + 1 } :: below },
          candidateMissing s l c)

/-- An attempt at a staging refill: spec 07 R98, R102. -/
def refill (s : State) (l : Lane) : Lane × Nat :=
  if l.state ≠ .running ∨ l.slot.isSome then (l, 0)
  else if l.mode = .singlePass ∧ l.passEnd then (enterDraining l, 0)
  else refillContexts s l l.interjections

/-- An attempt made for lane `m`, put into the state, the missing codes counted. -/
def refillLane (m : Nat) (l : Lane) (s : State) : State :=
  let r := refill s l
  countMissing r.2 (setLane s m r.1)

end Sys2Proof.Machine
end

