-- ==== Sys2Proof/Machine/Lanes.lean ====
section
/-! DEFINITION. The lane engines: lane, playlist and interjection commands, the stages of an output frame start and the
snapshot (spec 06 section 6.5, spec 07, spec 08). -/

namespace Sys2Proof.Machine

open Sys2Proof

/-! ## The lane a command names -/

/-- The lane number in range and the packet's level at most the lane's owner level: spec 03 R39. -/
def checkedLane (h : Header) (lane : Byte) (s : State) : Except Reason Nat :=
  match laneNumber lane with
  | none => .error .range
  | some m => if (laneOf s m).owner < h.level then .error .level else .ok m

/-- Every item number of a run lies in 0..1023. -/
def itemNumbersOk (items : List Half) : Bool := items.all fun i => decide (i.toNat ≤ 1023)

/-- The item numbers a run carries. -/
def itemNumbers (items : List Half) : List Nat := items.map fun i => i.toNat

/-! ## Playlist commands -/

/-- The lane with its base list replaced: spec 06 R84, spec 07 R92. The staged entry loses its list position where the
base context is active. -/
def replaceBase (l : Lane) (items : List Nat) : Lane :=
  { l with base := items, cursor := 0, passEnd := false,
           slot := if l.interjections.isEmpty then l.slot.map fun e => { e with position := none } else l.slot }

/-- PLAYLIST_WRITE: spec 06 R83, R84. -/
def doPlaylistWrite (h : Header) (lane : Byte) (items : List Half) (s : State) : Except Reason State :=
  match checkedLane h lane s with
  | .error r => .error r
  | .ok m =>
    if itemNumbersOk items then .ok (refillLane m (replaceBase (laneOf s m) (itemNumbers items)) s)
    else .error .range

/-- PLAYLIST_APPEND: spec 06 R85. -/
def doPlaylistAppend (h : Header) (lane : Byte) (items : List Half) (s : State) : Except Reason State :=
  match checkedLane h lane s with
  | .error r => .error r
  | .ok m =>
    if itemNumbersOk items then
      if 128 < (laneOf s m).base.length + items.length then .error .range
      else .ok (refillLane m { laneOf s m with base := (laneOf s m).base ++ itemNumbers items } s)
    else .error .range

/-! ## Lane commands -/

/-- The pending configuration a LANE_CONFIG makes: spec 07 R90. -/
def laneConfigOf (f : LaneFields) : LaneConfig :=
  { top := f.top.toNat, height := clampTo 8 128 f.height.toNat, left := f.left.toNat, right := f.right.toNat,
    gap := clampTo 0 1023 f.gap.toNat, defaultStyle := f.defaultStyle.toNat, staleColour := f.staleColour.toNat }

/-- LANE_CONFIG: spec 07 R90, spec 03 R38. -/
def doLaneConfig (h : Header) (f : LaneFields) (s : State) : Except Reason State :=
  match checkedLane h f.lane s with
  | .error r => .error r
  | .ok m =>
    if 3 < f.owner.toNat then .error .range
    else if f.owner.toNat ≠ (laneOf s m).owner ∧ h.level ≠ 0 then .error .level
    else if 63 < f.defaultStyle.toNat ∨ 63 < f.staleColour.toNat then .error .range
    else .ok (setLane s m { laneOf s m with owner := f.owner.toNat, pending := some (laneConfigOf f) })

/-- The lane mode a payload byte names. -/
def laneModeOf (b : Byte) : Option LaneMode :=
  if b = 0 then some .loop else if b = 1 then some .singlePass else none

/-- A lane set RUNNING from a start index: spec 07 R93. -/
def startLane (l : Lane) (mode : LaneMode) (start : Nat) : Lane :=
  { l with state := .running, mode := mode, passEnd := false, starved := false,
           cursor := if start < l.base.length then start else 0 }

/-- LANE_START: spec 07 R93. -/
def doLaneStart (h : Header) (lane mode start : Byte) (s : State) : Except Reason State :=
  match checkedLane h lane s with
  | .error r => .error r
  | .ok m =>
    match laneModeOf mode with
    | none => .error .range
    | some md =>
      if (laneOf s m).state = .running then .error .state
      else .ok (refillLane m (startLane (laneOf s m) md start.toNat) s)

/-- A lane cut to IDLE: spec 07 R95. -/
def cutLane (l : Lane) : Lane :=
  { l with state := .idle, screen := [], slot := none, starved := false, passEnd := false, interjections := [],
           cursor := 0, target := l.speed }

/-- A lane drained by command: spec 07 R94. -/
def drainLane (l : Lane) : Lane := if l.state = .running then enterDraining l else l

/-- LANE_STOP: spec 07 R94, R95. -/
def doLaneStop (h : Header) (lane mode : Byte) (s : State) : Except Reason State :=
  match checkedLane h lane s with
  | .error r => .error r
  | .ok m =>
    match flagOf mode with
    | none => .error .range
    | some cut =>
      if (laneOf s m).state = .idle then .error .state
      else .ok (setLane s m (if cut then cutLane (laneOf s m) else drainLane (laneOf s m)))

/-- LANE_SPEED: spec 07 R105. -/
def doLaneSpeed (h : Header) (lane : Byte) (target step : Half) (s : State) : Except Reason State :=
  match checkedLane h lane s with
  | .error r => .error r
  | .ok m =>
    .ok (setLane s m { laneOf s m with target := clampTo 0 960 target.toNat, step := clampTo 0 960 step.toNat })

/-! ## Interjections -/

/-- The cursor of the active context set back to an index; for the base context the pass end mark clears: spec 08 R123
step 1. -/
def setBack (l : Lane) (index : Nat) : Lane :=
  match l.interjections with
  | [] => { l with cursor := index, passEnd := false }
  | i :: below => { l with interjections := { i with cursor := index } :: below }

/-- The staged entry returned to its context or lost: spec 08 R123 step 1. -/
def returnStaged (l : Lane) : Lane :=
  match l.slot with
  | none => l
  | some e =>
    match e.position with
    | none => { l with slot := none }
    | some index => setBack { l with slot := none } index

/-- A new interjection context made active: spec 08 R123 steps 1 to 3. -/
def pushInterjection (l : Lane) (items : List Nat) : Lane :=
  let l1 := returnStaged l
  { l1 with interjections := { items := items, cursor := 0 } :: l1.interjections }

/-- INTERJECT: spec 08 R122, R123. -/
def doInterject (h : Header) (lane : Byte) (items : List Half) (s : State) : Except Reason State :=
  match checkedLane h lane s with
  | .error r => .error r
  | .ok m =>
    if itemNumbersOk items then
      if (laneOf s m).state ≠ .running then .error .state
      else if 3 ≤ (laneOf s m).interjections.length then .error .depth
      else .ok (refillLane m (pushInterjection (laneOf s m) (itemNumbers items)) s)
    else .error .range

/-- INTERJECT_CANCEL: spec 08 R128. -/
def doInterjectCancel (h : Header) (lane : Byte) (s : State) : Except Reason State :=
  match checkedLane h lane s with
  | .error r => .error r
  | .ok m =>
    match (laneOf s m).interjections with
    | [] => .error .state
    | _ :: below => .ok (refillLane m { laneOf s m with slot := none, interjections := below } s)

/-! ## The stages of an output frame start (spec 07 R114) -/

/-- The width W of the viewport. -/
def Geometry.width (g : Geometry) : Nat := g.right - g.left

/-- The geometry in force from a configuration and a format: spec 07 R91. -/
def geometryOf (c : LaneConfig) (f : Format) : Geometry :=
  let left := min c.left (activeWidth f - 64)
  { top := min c.top (activeLines f - c.height), height := c.height, left := left,
    right := clampTo (left + 64) (activeWidth f) c.right }

/-- Stage 1, configuration: spec 07 R91. -/
def configStage (f : Format) (l : Lane) : Lane :=
  let c := l.pending.getD l.config
  { l with config := c, pending := none, geometry := geometryOf c f }

/-- The speed one ramp step on: spec 07 R106. -/
def rampSpeed (speed target step : Nat) : Nat :=
  if step = 0 then target else stepToward speed target step

/-- Stage 2, the speed ramp: spec 07 R106. -/
def rampStage (l : Lane) : Lane := { l with speed := rampSpeed l.speed l.target l.step }

/-- The increment of a speed at a format: spec 07 R107. -/
def incrementOf (v : Nat) (f : Format) : Nat := (v * 65536 * periodN f + periodD f / 2) / periodD f

/-- Stage 3, the increment: spec 07 R107. -/
def incrementStage (f : Format) (l : Lane) : Lane := { l with increment := incrementOf l.speed f }

/-- Stage 4, motion: spec 07 R110. -/
def motionStage (l : Lane) : Lane :=
  if l.state = .idle then l
  else { l with screen := l.screen.map fun p => { p with x := p.x - (l.increment : Int) } }

/-- An entry's right edge has passed the viewport left: spec 07 R111. -/
def hasLeft (p : Placed) : Bool := decide (p.x + (p.entry.width : Int) * 65536 ≤ 0)

/-- Stage 5, removal from the front: spec 07 R111. -/
def removalStage (l : Lane) : Lane := { l with screen := l.screen.dropWhile hasLeft }

/-- The viewport's right edge in units of 1/65536 pixel. -/
def rightEdge (l : Lane) : Int := (l.geometry.width : Int) * 65536

/-- The tail T: spec 07 R112. -/
def tail (l : Lane) : Int :=
  match l.screen.getLast? with
  | none => rightEdge l
  | some p => p.x + ((p.entry.width : Int) + (l.config.gap : Int)) * 65536

/-- The staged entry appended at the tail: spec 07 R112 step 1. -/
def placeEntry (l : Lane) (e : Staged) : Lane :=
  { l with slot := none, nextNumber := l.nextNumber + 1,
           screen := l.screen ++ [{ entry := e, x := tail l, number := l.nextNumber }] }

/-- Placement and refill in turn, at most `fuel` times: spec 07 R112. Answers the lane and the codes found missing. -/
def placeLoop (s : State) : Nat → Lane → Lane × Nat
  | 0, l => (l, 0)
  | fuel + 1, l =>
    match l.slot with
    | none => (l, 0)
    | some e =>
      if tail l ≤ rightEdge l ∧ l.screen.length < 16 then
        match refill s (placeEntry l e) with
        | (l1, n1) =>
          match placeLoop s fuel l1 with
          | (l2, n2) => (l2, n1 + n2)
      else (l, 0)

/-- A full list turns the staged entry away: spec 07 R113. -/
def countCrowded (l : Lane) : Lane :=
  if l.slot.isSome ∧ tail l ≤ rightEdge l ∧ 16 ≤ l.screen.length then { l with crowded := l.crowded + 1 } else l

/-- Stage 6, refill and placement: spec 07 R112, R113. A list has at most 16 places to fill. -/
def placementStage (s : State) (l : Lane) : Lane × Nat :=
  if l.state ≠ .running then (l, 0)
  else
    match refill s l with
    | (l1, n1) =>
      match placeLoop s 16 l1 with
      | (l2, n2) => (countCrowded l2, n1 + n2)

/-- Stage 7, completion of draining: spec 07 R96. -/
def drainStage (l : Lane) : Lane :=
  if l.state = .draining ∧ l.screen.isEmpty then
    { l with state := .idle, cursor := 0, drained := l.drained + 1 }
  else l

/-- Stages 1 to 7 of a lane, with the codes found missing; a held lane makes stages 1 and 3 (spec 07 R114, R115). -/
def laneStages (s : State) (held : Bool) (l : Lane) : Lane × Nat :=
  let f := s.timing.format
  let l1 := configStage f l
  if held then (incrementStage f l1, 0)
  else
    match placementStage s (removalStage (motionStage (incrementStage f (rampStage l1)))) with
    | (l2, n) => (drainStage l2, n)

/-- Lane `m` acts on an output frame start, reading the guard state as it stands: spec 07 R114, R115. -/
def laneAct (m : Nat) (s : State) : State :=
  let r := laneStages s (isGuarded s) (laneOf s m)
  countMissing r.2 (setLane s m r.1)

/-! ## The snapshot (spec 07 R116) -/

/-- The band values of the default style, or no band: spec 05 R65. -/
def bandOf (s : State) (l : Lane) : Option (Nat × Nat) :=
  if l.config.defaultStyle = 0 then none
  else (styleAt s l.config.defaultStyle).map fun x => (x.bandColour, x.bandOpacity)

/-- The integer position of a left edge: spec 07 R108. -/
def integerPosition (x : Int) : Int := x / 65536

/-- The phase of a left edge, the top three bits of its fraction: spec 07 R108. -/
def phaseOf (x : Int) : Nat := (x % 65536).toNat / 8192

/-- What an entry shows now: spec 07 R116. -/
def shownOf (s : State) (l : Lane) (e : Staged) : Shown :=
  match e.item.body with
  | .text offset length => .text (Memory.readRun s.text offset length)
  | .quote symbol fields =>
    .quote ((symbolAt s.quote symbol).map fun x => formatQuote s.quote x fields e.style l.config.staleColour)
  | .separator code _ => .separator code

/-- The snapshot of one placed entry. -/
def snapEntry (s : State) (l : Lane) (p : Placed) : SnapEntry :=
  { number := p.number, position := integerPosition p.x, phase := phaseOf p.x, width := p.entry.width,
    style := p.entry.style, clipped := p.entry.clipped, shown := shownOf s l p.entry }

/-- The snapshot of a lane: spec 07 R116. -/
def snapshotOf (s : State) (l : Lane) : Snapshot :=
  { top := l.geometry.top, height := l.geometry.height, left := l.geometry.left, width := l.geometry.width,
    staleColour := l.config.staleColour, selector := l.config.defaultStyle, band := bandOf s l,
    entries := l.screen.map (snapEntry s l) }

/-! ## Reset -/

/-- A lane at a RESET RUN: spec 02 R30, spec 07 R89, R92, R97, R100, R105, R109, R118. -/
def resetRunLane (l : Lane) : Lane :=
  { Lane.initial with config := l.config, owner := l.owner, geometry := l.geometry, pending := l.pending, base := l.base,
                      nextNumber := l.nextNumber }

/-- A lane at a RESET ALL: spec 02 R30; the geometry in force stands until the next output frame start (log 12). -/
def resetAllLane (l : Lane) : Lane := { Lane.initial with geometry := l.geometry, nextNumber := l.nextNumber }

end Sys2Proof.Machine
end

