-- ==== Sys2Proof/Machine/Keyer.lean ====
section
/-! DEFINITION. The keyer: KEY_ON and KEY_OFF, the fade step, the guard's directions (spec 10 sections 10.8). -/

namespace Sys2Proof.Machine

open Sys2Proof

/-- The fade step of an output frame start: spec 10 R165. -/
def fadeStep (k : Keyer) : Keyer :=
  if k.level = k.target.level then k
  else
    match k.source with
    | .guard step => { k with level := stepToward k.level k.target.level step }
    | .key =>
      if k.keyFade = 0 then { k with level := k.target.level }
      else { k with level := stepToward k.level k.target.level (ceilDiv 256 k.keyFade) }

/-- The keyer aims at a target with fade source KEY, at once where the key fade frames are 0 (spec 10 R164, R166). -/
def aimKey (k : Keyer) (t : Switch) : Keyer :=
  { k with target := t, source := .key, level := if k.keyFade = 0 then t.level else k.level }

/-- KEY_ON and KEY_OFF from the wish they set: spec 10 R164. -/
def doKeyWish (h : Header) (w : Switch) (s : State) : Except Reason State :=
  if 1 < h.level then .error .level
  else if isGuarded s then .ok { s with keyer := { s.keyer with wish := w } }
  else .ok { s with keyer := aimKey { s.keyer with wish := w } w }

/-- KEY_ON: spec 10 R164. -/
def doKeyOn (h : Header) (s : State) : Except Reason State := doKeyWish h .on s

/-- KEY_OFF: spec 10 R164. -/
def doKeyOff (h : Header) (s : State) : Except Reason State := doKeyWish h .off s

/-- The fade-to-zero direction with the guard fade frames as they stand: spec 10 R166. A fade of 0 frames leaves the
fade source as it was (log 23). -/
def fadeToZero (guardFade : Nat) (k : Keyer) : Keyer :=
  if guardFade = 0 then { k with target := .off, level := 0 }
  else { k with target := .off, source := .guard (ceilDiv 256 guardFade) }

/-- The cut-to-zero direction: spec 10 R166 (log 23). -/
def cutToZero (k : Keyer) : Keyer := { k with target := .off, level := 0 }

/-- The release direction: spec 10 R166. -/
def releaseKey (k : Keyer) : Keyer := aimKey k k.wish

end Sys2Proof.Machine
end

