-- ==== Sys2Proof/Machine/Guard.lean ====
section
/-! DEFINITION. The guard unit: causes, state and action, the slate, its commands (spec 11). -/

namespace Sys2Proof.Machine

open Sys2Proof

/-! ## The slate -/

/-- What a slate resolution finds (spec 11 R177): the codes of the run, the style, or none where a check fails. -/
def slateParts (s : State) : Option (List Byte × Style) :=
  match s.guard.slate with
  | none => none
  | some c =>
    match itemAt s c.item with
    | none => none
    | some i =>
      match i.body with
      | .text offset length =>
        if c.style = 0 then none
        else
          match styleAt s c.style with
          | none => none
          | some x =>
            if x.owner < i.owner then none
            else if 32768 < offset + length then none
            else some (Memory.readRun s.text offset length, x)
      | _ => none

/-- Spec 11 R177: the slate is resolved, shown and measured, or the slate-fault flag is set and no slate is shown. -/
def resolveSlate (s : State) : State :=
  match slateParts s with
  | none => { s with guard := { s.guard with resolved := none, slateFault := true } }
  | some (codes, x) =>
    let total := x.padLeft + advanceTotal s.glyphs x.font codes + x.padRight
    let r : ResolvedSlate := { style := x, codes := codes, width := clampTo 1 16383 total }
    countMissing (missingTotal s.glyphs x.font codes)
      { s with guard := { s.guard with resolved := some r, slateFault := false } }

/-- Spec 11 R179: the slate is withdrawn; the slate-fault flag is unchanged. -/
def withdrawSlate (s : State) : State := { s with guard := { s.guard with resolved := none } }

/-! ## Recomputation -/

/-- The fade-to-zero direction is sent (spec 11 R175). -/
def sendFade (s : State) : State := { s with keyer := fadeToZero s.guard.guardFade s.keyer }

/-- The cut-to-zero direction is sent (spec 11 R175). -/
def sendCut (s : State) : State := { s with keyer := cutToZero s.keyer }

/-- The release direction is sent (spec 11 R175). -/
def sendRelease (s : State) : State := { s with keyer := releaseKey s.keyer }

/-- Spec 11 R175: the guard unit acts on the change from one guard state to another. -/
def actOnChange (before after : GuardState) (s : State) : State :=
  match before, after with
  | .normal, .guarded .clear => sendFade s
  | .normal, .guarded .slate => resolveSlate (sendCut s)
  | .guarded .clear, .guarded .slate => resolveSlate (sendCut s)
  | .guarded .slate, .guarded .clear => sendFade (withdrawSlate s)
  | .guarded _, .normal => sendRelease (withdrawSlate s)
  | _, _ => s

/-- Spec 11 R174, R175: the state and action are computed from the set, and the change is acted on. -/
def recompute (s : State) : State :=
  let after := guardStateOf s.guard
  actOnChange s.guard.state after { s with guard := { s.guard with state := after } }

/-- The set with one cause put in or taken out, nothing recomputed yet. -/
def markCause (k : Cause) (b : Bool) (s : State) : State :=
  { s with guard := { s.guard with active := s.guard.active.put k b } }

/-- The onset of a condition: spec 11 R170. -/
def causeOnset (k : Cause) (s : State) : State :=
  if (causeConfig s.guard k).enabled && !s.guard.active.has k then recompute (markCause k true s) else s

/-- The end of a condition: spec 11 R171, an AUTO cause leaves. -/
def causeEnd (k : Cause) (s : State) : State :=
  if s.guard.active.has k && !(causeConfig s.guard k).latched then recompute (markCause k false s) else s

/-- The evaluation of FEED_LOSS at an output frame start: spec 11 R168. -/
def guardEvaluate (s : State) : State :=
  if conditionPresent s .feedLoss then causeOnset .feedLoss s else causeEnd .feedLoss s

/-- Each enabled cause whose condition is present joins, with one recomputation: spec 11 R181. -/
def joinPresent (s : State) : State :=
  let joins (k : Cause) : Bool := (causeConfig s.guard k).enabled && conditionPresent s k
  recompute { s with guard := { s.guard with active :=
    { inputLoss := s.guard.active.inputLoss || joins .inputLoss,
      feedLoss := s.guard.active.feedLoss || joins .feedLoss,
      intakeOverrun := s.guard.active.intakeOverrun || joins .intakeOverrun,
      manual := s.guard.active.manual || joins .manual } } }

/-! ## Commands -/

/-- The cause a GUARD_CONFIG may name (spec 11 R169). -/
def configurableCause (b : Byte) : Option Cause :=
  if b = 0 then some .inputLoss else if b = 1 then some .feedLoss else if b = 2 then some .intakeOverrun else none

/-- The configuration of one of the three configurable causes stored. -/
def setCauseConfig (k : Cause) (c : CauseConfig) (s : State) : State :=
  match k with
  | .inputLoss => { s with guard := { s.guard with inputLoss := c } }
  | .feedLoss => { s with guard := { s.guard with feedLoss := c } }
  | .intakeOverrun => { s with guard := { s.guard with intakeOverrun := c } }
  | .manual => s

/-- Spec 11 R169: whether the cause is in the set after its settings are stored. -/
def membershipAfter (c : CauseConfig) (present member : Bool) : Bool :=
  if !c.enabled then false
  else if present then true
  else if !c.latched then false
  else member

/-- GUARD_CONFIG: spec 11 R169 (log 21). -/
def doGuardConfig (h : Header) (f : CauseFields) (s : State) : Except Reason State :=
  if 0 < h.level then .error .level
  else
    match configurableCause f.cause with
    | none => .error .range
    | some k =>
      match flagOf f.enable, flagOf f.mode, actionOf f.action with
      | some enabled, some latched, some action =>
        let c : CauseConfig := { enabled := enabled, latched := latched, action := action }
        let s1 := setCauseConfig k c s
        .ok (recompute (markCause k (membershipAfter c (conditionPresent s k) (s.guard.active.has k)) s1))
      | _, _, _ => .error .range

/-- GUARD_SET: spec 11 R172. -/
def doGuardSet (h : Header) (action cut : Byte) (s : State) : Except Reason State :=
  if 1 < h.level then .error .level
  else
    match actionOf action, flagOf cut with
    | some a, some c =>
      let s1 := { s with guard := { s.guard with manual := true, manualAction := some a } }
      let s2 := recompute (markCause .manual true s1)
      .ok (if c then sendCut s2 else s2)
    | _, _ => .error .range

/-- Spec 11 R173: whether a cause of the set leaves at a release, the condition of MANUAL read as absent. -/
def leavesAtRelease (s : State) (k : Cause) : Bool :=
  s.guard.active.has k &&
    match k with
    | .manual => true
    | .feedLoss => !conditionPresent s .feedLoss
    | _ => (causeConfig s.guard k).latched && !conditionPresent s k

/-- GUARD_RELEASE: spec 11 R173. -/
def doGuardRelease (h : Header) (s : State) : Except Reason State :=
  if 1 < h.level then .error .level
  else if allCauses.any (leavesAtRelease s) then
    let stays (k : Cause) : Bool := s.guard.active.has k && !leavesAtRelease s k
    .ok (recompute { s with guard := { s.guard with manual := false, active :=
      { inputLoss := stays .inputLoss, feedLoss := stays .feedLoss, intakeOverrun := stays .intakeOverrun,
        manual := stays .manual } } })
  else .error .state

/-- The slate configuration a SLATE_CONFIG stores (spec 11 R176). -/
def slateConfigOf (configured : Bool) (f : SlateFields) : Option SlateConfig :=
  if configured then
    some { item := f.item.toNat, top := f.top.toNat, height := clampTo 8 128 f.height.toNat, left := f.left.toNat,
           right := f.right.toNat, style := f.style.toNat }
  else none

/-- SLATE_CONFIG: spec 11 R176. -/
def doSlateConfig (h : Header) (f : SlateFields) (s : State) : Except Reason State :=
  if 0 < h.level then .error .level
  else
    match flagOf f.configure with
    | none => .error .range
    | some configured =>
      if 1023 < f.item.toNat then .error .range
      else if 63 < f.style.toNat then .error .range
      else
        let s1 := { s with guard := { s.guard with slate := slateConfigOf configured f } }
        .ok (if s.guard.state = .guarded .slate then resolveSlate s1 else s1)

end Sys2Proof.Machine
end

