-- ==== Sys2Proof/Machine/Video.lean ====
section
/-! DEFINITION. The input unit and output timing: good frames, window expiries, the search of the carriage lines, the
delayed lines (spec 01). -/

namespace Sys2Proof.Machine

open Sys2Proof

/-! ## The input unit -/

/-- The input unit's lock: spec 01 R2, the row of ACQUIRING that locks. -/
def lockOn (f : Format) (u : InputUnit) : InputUnit :=
  { u with state := .locked, lockedFormat := some f, candidate := none, goodCount := 0, missCount := 0 }

/-- A new candidate format, the miss count and the locked format kept: spec 01 R2. -/
def acquire (f : Format) (u : InputUnit) : InputUnit :=
  { u with state := .acquiring, candidate := some f, goodCount := 1 }

/-- The table of spec 01 R2. -/
def goodFrameInput (f : Format) (u : InputUnit) : InputUnit :=
  match u.state with
  | .noSignal => { acquire f u with missCount := 0 }
  | .acquiring =>
    if u.candidate = some f then
      if 2 ≤ u.goodCount + 1 then lockOn f u else { u with goodCount := u.goodCount + 1 }
    else acquire f u
  | .locked => if u.lockedFormat = some f then { u with missCount := 0 } else acquire f u
  | .holdover => if u.lockedFormat = some f then { u with state := .locked, missCount := 0 } else acquire f u

/-- Entry to NO_SIGNAL by a reached filter: spec 01 R3. -/
def loseSignal (u : InputUnit) : InputUnit :=
  { u with state := .noSignal, candidate := none, goodCount := 0, missCount := 0 }

/-- The expiry of the frame window: spec 01 R3. -/
def expiryInput (u : InputUnit) : InputUnit :=
  let u1 := { u with missCount := u.missCount + 1 }
  match u.state with
  | .noSignal => u
  | .locked => if u1.missCount < u1.lossFilter then { u1 with state := .holdover } else loseSignal u1
  | .holdover => if u1.missCount < u1.lossFilter then u1 else loseSignal u1
  | .acquiring => if u1.missCount < u1.lossFilter then u1 else loseSignal u1

/-- The check of a new input loss filter: spec 01 R4. -/
def filterCheck (u : InputUnit) : InputUnit :=
  match u.state with
  | .holdover => if u.lossFilter ≤ u.missCount then loseSignal u else u
  | .acquiring => if u.lossFilter ≤ u.missCount then loseSignal u else u
  | _ => u

/-! ## What follows a change of the input state -/

/-- The timing mode that goes with an input state: spec 01 R7. -/
def modeOf (i : InputState) : TimingMode := if i = .locked then .following else .flywheel

/-- The input unit replaced, and output timing in the mode of its state (spec 01 R7). -/
def putInput (u : InputUnit) (s : State) : State :=
  { s with input := u, timing := { s.timing with mode := modeOf u.state } }

/-- The input unit replaced, and the onset or the end of INPUT_LOSS acted on within the event (spec 01 R14, spec 11
R168). -/
def changeInput (u : InputUnit) (s : State) : State :=
  let s1 := putInput u s
  if s.input.state = .noSignal ∧ u.state ≠ .noSignal then causeEnd .inputLoss s1
  else if s.input.state ≠ .noSignal ∧ u.state = .noSignal then causeOnset .inputLoss s1
  else s1

/-! ## The carriage lines -/

/-- A packet found in a line, with its first sample and the sample after its last. -/
structure FoundAt where
  start : Nat
  stop : Nat
  packet : Found
deriving DecidableEq, Repr

/-- The kind of packet a marker begins: spec 12 R187. -/
def markerKind (a b : Sample) : Option PacketKind :=
  if a = 0x19A then if b = 0x14C then some .control else if b = 0x153 then some .report else none else none

/-- The byte of a sample, its low eight bits: spec 12 R187. -/
def sampleByte (x : Sample) : Byte := x.setWidth 8

/-- How many bytes a packet has from its address on, where its length byte is among those the line holds: five header
bytes, the payload and the checksum (spec 12 R187). -/
def packetExtent (bs : List Byte) : Option Nat := bs[4]?.map fun n => 6 + n.toNat

/-- The packet at a marker, from the samples after the marker: spec 01 R6. -/
def packetAt (kind : PacketKind) (after : List Sample) : Found :=
  let bs := after.map sampleByte
  match packetExtent bs with
  | some n =>
    if n ≤ bs.length then { kind := kind, bytes := bs.take n, truncated := false }
    else { kind := kind, bytes := bs, truncated := true }
  | none => { kind := kind, bytes := bs, truncated := true }

/-- The search of a line: spec 01 R6. `skip` samples belong to the last packet found, `i` is the number of the first
sample and `controls` how many control packets have been found; after the fourth the rest is not searched. -/
def searchLine (skip i controls : Nat) : List Sample → List FoundAt
  | [] => []
  | a :: t =>
    if 0 < skip then searchLine (skip - 1) (i + 1) controls t
    else if 4 ≤ controls then []
    else
      match t with
      | [] => []
      | b :: after =>
        match markerKind a b with
        | none => searchLine 0 (i + 1) controls t
        | some kind =>
          let p := packetAt kind after
          let n := 2 + p.bytes.length
          { start := i, stop := i + n, packet := p } ::
            (if p.truncated then []
             else searchLine (n - 1) (i + 1) (if kind = .control then controls + 1 else controls) t)

/-- The packets of a line in order of position. -/
def packetsOfLine (l : Line) : List FoundAt := searchLine 0 0 0 l

/-- The packets of the carriage lines, the first four of the vertical blanking, in order (spec 01 R6). -/
def packetsOfFrame (blanking : List Line) : List Found :=
  (blanking.take 4).flatMap fun l => (packetsOfLine l).map FoundAt.packet

/-- A control packet whose address field is the part's device address: spec 01 R11. -/
def isOwn (address : Nat) (p : FoundAt) : Bool :=
  p.packet.kind == .control && match p.packet.bytes with
    | a :: _ => decide (a.toNat = address)
    | [] => false

/-- A line with the samples of given packets at blanking level, `i` the number of the first sample: spec 01 R11. -/
def blankOut (own : List FoundAt) (i : Nat) : List Sample → OutLine
  | [] => []
  | x :: xs =>
    (if own.any fun p => decide (p.start ≤ i ∧ i < p.stop) then none else some x) :: blankOut own (i + 1) xs

/-- A carriage line as it leaves: spec 01 R11. -/
def outgoingCarriage (address : Nat) (l : Line) : OutLine :=
  blankOut ((packetsOfLine l).filter (isOwn address)) 0 l

/-- The lines of the vertical blanking as they leave in FOLLOWING; what arrived in the report lines is discarded (spec
01 R10 to R12). `i` is the number of the first line. -/
def delayedLines (address : Nat) : Nat → List Line → List OutLine
  | _, [] => []
  | i, l :: ls =>
    (if i < 4 then outgoingCarriage address l else if i < 6 then [] else l.map some) ::
      delayedLines address (i + 1) ls

end Sys2Proof.Machine
end

