-- ==== Sys2Proof/Machine/Reset.lean ====
section
/-! DEFINITION. Power-on reset and the RESET command in its two scopes (spec 01 R13, spec 02 R29 to R31). -/

namespace Sys2Proof.Machine

open Sys2Proof

/-- A power-on reset: spec 01 R13, spec 02 R31. The reset pin is low from here to its release (log 7); the address
straps and the queue of waiting commands are not the part's to clear. -/
def powerOnReset (s : State) : State :=
  let t := State.powerOn (s.powerOns + 1) { s.pins with resetLow := true } s.pending
  { t with glyphs := { t.glyphs with slots := abandonedSlots (s.powerOns + 1) s.glyphs s.engine.op } }

/-- The intake emptied: spec 02 R29. The group address stands. -/
def resetIntake (i : Intake) : Intake := { Intake.initial with groupAddress := i.groupAddress }

/-- The keyer at a RESET: spec 10 R163. The key fade frames stand. -/
def resetKeyer (k : Keyer) : Keyer := { Keyer.initial with keyFade := k.keyFade }

/-- The guard unit at a RESET RUN, before it reads the conditions: spec 11 R181. -/
def resetGuard (g : GuardUnit) : GuardUnit :=
  { GuardUnit.initial with inputLoss := g.inputLoss, feedLoss := g.feedLoss, intakeOverrun := g.intakeOverrun,
                           slate := g.slate, guardFade := g.guardFade }

/-- A symbol at a RESET RUN: spec 02 R30. -/
def resetSymbol (x : Symbol) : Symbol := { x with flash := 0, age := 0, stale := false }

/-- The quote unit at a RESET RUN: spec 02 R30. -/
def resetQuote (q : QuoteUnit) : QuoteUnit :=
  { q with symbols := mapSymbols resetSymbol q.symbols, feedAge := 0 }

/-- What the two scopes set alike: spec 02 R29, R30, spec 10 R154, spec 12 R183, R186. -/
def resetCommon (s : State) : State :=
  { s with intake := resetIntake s.intake, engine := .initial,
           renderer := { s.renderer with frameSet := none },
           keyer := resetKeyer s.keyer, guard := resetGuard s.guard, report := { s.report with replies := [] } }

/-- The blocks at a RESET RUN, before the guard unit reads the conditions: spec 02 R29, R30. -/
def resetRunBlocks (s : State) : State :=
  let s1 := resetCommon s
  { s1 with glyphs := { s1.glyphs with missing := 0 }, quote := resetQuote s1.quote, lanes := s1.lanes.map resetRunLane }

/-- The blocks at a RESET ALL, before the guard unit reads the conditions: spec 02 R29, R30, spec 01 R4. -/
def resetAllBlocks (s : State) : State :=
  let s1 := resetCommon s
  putInput (filterCheck { s1.input with lossFilter := 3 })
    { s1 with intake := .initial, glyphs := .initial .zero, palette := .initial, styles := [], text := [],
              items := [], quote := .initial, lanes := s1.lanes.map resetAllLane, keyer := .initial,
              guard := .initial }

/-- RESET RUN: spec 02 R29, R30, spec 11 R181 (log 25). -/
def resetRunEffect (s : State) : State := joinPresent (resetRunBlocks s)

/-- RESET ALL: spec 02 R29, R30, spec 11 R181 (log 25). -/
def resetAllEffect (s : State) : State := joinPresent (resetAllBlocks s)

/-- RESET: spec 02 R29; scope 0 is RUN and 1 is ALL (spec 12 section 12.5). -/
def doReset (h : Header) (scope : Byte) (s : State) : Except Reason State :=
  if 0 < h.level then .error .level
  else if scope = 0 then .ok (resetRunEffect s)
  else if scope = 1 then .ok (resetAllEffect s)
  else .error .range

end Sys2Proof.Machine
end

