-- ==== Sys2Proof/Machine/Device.lean ====
section
/-! DEFINITION. DEVICE_CONFIG (spec 02 section 2.5). -/

namespace Sys2Proof.Machine

open Sys2Proof

/-- The group address a field stands for, 255 being none; none at all where it is 31..254 (spec 02 R27). -/
def groupField (b : Byte) : Option (Option Nat) :=
  if b = 0xFF then some none else if b.toNat ≤ 30 then some (some b.toNat) else none

/-- The intake with its group address set where the packet carries one: spec 02 R27, R28. -/
def deviceIntake (f : DeviceFields) (i : Intake) : Intake :=
  match f.groupAddress with
  | some b => { i with groupAddress := (groupField b).getD i.groupAddress }
  | none => i

/-- The class filter and the large threshold set where the packet carries them: spec 09 R145. -/
def deviceClasses (f : DeviceFields) (q : QuoteUnit) : QuoteUnit :=
  { q with classFilter := (f.classFilter.map fun b => clampTo 0 7 b.toNat).getD q.classFilter,
           largeThreshold := (f.largeThreshold.map fun v => clampTo 1 9999 v.toNat).getD q.largeThreshold }

/-- The stale limit set where the packet carries it, converted to frames, every stale flag evaluated: spec 09 R144. -/
def deviceStale (form : Format) (f : DeviceFields) (q : QuoteUnit) : QuoteUnit :=
  match f.staleLimit with
  | some v =>
    let limit := clampTo 0 600 v.toNat
    evaluateStale { q with staleLimit := limit, staleFrames := framesOf form limit }
  | none => q

/-- The feed timeout set where the packet carries it and converted to frames, every stale flag evaluated: spec 09 R144. -/
def deviceFeed (form : Format) (f : DeviceFields) (q : QuoteUnit) : QuoteUnit :=
  match f.feedTimeout with
  | some v =>
    let limit := clampTo 0 600 v.toNat
    evaluateStale { q with feedTimeout := limit, feedFrames := framesOf form limit }
  | none => q

/-- The quote unit's four settings: spec 09 R145. -/
def deviceQuote (form : Format) (f : DeviceFields) (q : QuoteUnit) : QuoteUnit :=
  deviceFeed form f (deviceStale form f (deviceClasses f q))

/-- The settings other than the input loss filter stored: spec 02 R27. -/
def storeSettings (f : DeviceFields) (s : State) : State :=
  { s with intake := deviceIntake f s.intake,
           quote := deviceQuote s.timing.format f s.quote,
           keyer := { s.keyer with keyFade := (f.keyFade.map BitVec.toNat).getD s.keyer.keyFade },
           guard := { s.guard with guardFade := (f.guardFade.map BitVec.toNat).getD s.guard.guardFade } }

/-- The input loss filter set where the packet carries it, with its check: spec 01 R4. -/
def deviceFilter (f : DeviceFields) (u : InputUnit) : InputUnit :=
  match f.lossFilter with
  | some b => filterCheck { u with lossFilter := clampTo 1 15 b.toNat }
  | none => u

/-- A group address field of 31..254 is present: spec 02 R27. -/
def groupOutOfRange (f : DeviceFields) : Bool :=
  match f.groupAddress with
  | some b => (groupField b).isNone
  | none => false

/-- DEVICE_CONFIG: spec 02 R27, R28. Every setting is stored before the check of the input loss filter acts (log 20). -/
def doDeviceConfig (h : Header) (f : DeviceFields) (s : State) : Except Reason State :=
  if 0 < h.level then .error .level
  else if groupOutOfRange f then .error .range
  else .ok (changeInput (deviceFilter f s.input) (storeSettings f s))

end Sys2Proof.Machine
end

