-- ==== Sys2Proof/Machine/Palettes.lean ====
section
/-! DEFINITION. The palette (spec 04 section 4.6). -/

namespace Sys2Proof.Machine

open Sys2Proof

/-- A colour with each component clamped to 4..1019 (spec 04 R57). -/
def clampColour (c : ColourField) : Colour :=
  ⟨clampTo 4 1019 c.y.toNat, clampTo 4 1019 c.cb.toNat, clampTo 4 1019 c.cr.toNat⟩

/-- The written table's entry. -/
def writtenColour (p : Palette) (i : Nat) : Colour := Table.get Colour.black p.written i

/-- The displayed table's entry, the one the renderer and the keyer use (spec 04 R58). -/
def displayedColour (p : Palette) (i : Nat) : Colour := Table.get Colour.black p.displayed i

/-- PALETTE_WRITE: spec 04 R57. -/
def doPaletteWrite (h : Header) (first : Byte) (colours : List ColourField) (s : State) : Except Reason State :=
  if 1 < h.level then .error .level
  else if 64 < first.toNat + colours.length then .error .range
  else .ok { s with palette := { s.palette with
    written := Table.setRun Colour.black s.palette.written first.toNat (colours.map clampColour) } }

/-- The palette at an output frame start: spec 04 R58. -/
def paletteFrame (p : Palette) : Palette := { p with displayed := p.written }

end Sys2Proof.Machine
end

