-- ==== Sys2Proof/Machine/Reports.lean ====
section
/-! DEFINITION. The report unit: the status report, QUERY and the reply layouts, the report packets and the report lines
as samples (spec 12, spec 01 R12). -/

namespace Sys2Proof.Machine

open Sys2Proof

/-! ## The status report (spec 12 section 12.5) -/

/-- The fields of the status report that are not a lane's, as the report unit reads them (spec 12 R184, log 6). -/
structure StatusHead where
  input : InputState
  locked : Option Format
  guard : GuardState
  active : CauseSet
  slateFault : Bool
  key : KeyState
  keyLevel : Nat
  depth : Nat
  latch : Bool
  dropped : Counter
  busy : Bool
  refusals : Counter
  last : Option RefusalRecord
deriving DecidableEq, Repr

/-- The report unit reads the blocks other than the lanes: spec 12 R184, spec 02 R32, spec 10 R167, spec 11 R182. -/
def readHead (s : State) : StatusHead :=
  { input := s.input.state, locked := s.input.lockedFormat, guard := s.guard.state, active := s.guard.active,
    slateFault := s.guard.slateFault, key := keyState s.keyer, keyLevel := s.keyer.level,
    depth := s.intake.queue.length, latch := s.intake.latch, dropped := s.intake.dropped,
    busy := s.engine.op.isSome, refusals := s.engine.refusals, last := s.engine.last }

/-- The active cause set as a byte: bit 0 INPUT_LOSS to bit 3 MANUAL. -/
def causeSetByte (c : CauseSet) : Byte :=
  byte ((if c.inputLoss then 1 else 0) + (if c.feedLoss then 2 else 0) + (if c.intakeOverrun then 4 else 0) +
    (if c.manual then 8 else 0))

/-- The cursor of the active context (spec 07 R119). -/
def activeCursor (l : Lane) : Nat :=
  match l.interjections with
  | [] => l.cursor
  | i :: _ => i.cursor

/-- The twelve bytes of a lane: spec 12 section 12.5, spec 07 R119. -/
def laneStatus (l : Lane) : List Byte :=
  [byte (laneStateCode l.state)] ++ bytes2 l.speed ++
    [byte l.screen.length, byte (stagingCode l), byte l.interjections.length, byte (activeCursor l)] ++
    bytes2 l.faults ++
    match l.lastFault with
    | some (n, f) => bytes2 n ++ [byte (faultCode f)]
    | none => bytes2 65535 ++ [0]

/-- The last refusal as the report carries it: bytes 66 to 71. -/
def lastRefusalBytes : Option RefusalRecord → List Byte
  | some r => [1, r.seq, r.code, byte (reasonCode r.reason)] ++ bytes2 r.frameCount.toNat
  | none => [0, 0, 0, 0, 0, 0]

/-- The status report's payload of 72 bytes: spec 12 section 12.5. -/
def statusPayload (count : Counter) (h : StatusHead) (lanes : Quad Lane) : List Byte :=
  bytes2 count.toNat ++
    [byte (inputStateCode h.input),
     match h.locked with
     | some f => byte (formatIndex f)
     | none => 0xFF] ++
    (match h.guard with
     | .normal => [0, 0xFF]
     | .guarded a => [1, byte (actionCode a)]) ++
    [causeSetByte h.active, flagByte h.slateFault, byte (keyStateCode h.key)] ++ bytes2 h.keyLevel ++
    laneStatus lanes.q0 ++ laneStatus lanes.q1 ++ laneStatus lanes.q2 ++ laneStatus lanes.q3 ++
    [byte h.depth, flagByte h.latch] ++ bytes2 h.dropped.toNat ++ [flagByte h.busy] ++ bytes2 h.refusals.toNat ++
    lastRefusalBytes h.last

/-! ## Replies (spec 12 section 12.5) -/

/-- A reply's four common bytes. -/
def replyHead (kind : Nat) (index : Half) (present : Bool) : List Byte :=
  [byte kind] ++ halfBytes index ++ [flagByte present]

/-- The reply of an object that may be absent. -/
def replyOf (kind : Nat) (index : Half) (fields : Option (List Byte)) : List Byte :=
  match fields with
  | some f => replyHead kind index true ++ f
  | none => replyHead kind index false

def styleReply (x : Style) : List Byte :=
  [byte x.owner, byte x.font, byte x.textColour, byte x.bandColour] ++ bytes2 x.bandOpacity ++
    [byte x.padLeft, byte x.padRight, byte x.reserve, byte x.flashColour]

def itemReply (i : Item) : List Byte :=
  match i.body with
  | .text offset length => [byte i.owner, 1, byte i.selector] ++ bytes2 offset ++ bytes2 length
  | .quote symbol fields => [byte i.owner, 2, byte i.selector] ++ bytes2 symbol ++ [fieldSetByte fields, 0]
  | .separator code width => [byte i.owner, 3, byte i.selector, code, byte width, 0, 0]

/-- The eight code places of a symbol, those beyond its text 0 (spec 12 R188). -/
def codePlaces (text : List Byte) : List Byte := (text ++ List.replicate 8 0).take 8

def symbolReply (x : Symbol) : List Byte :=
  [byte x.owner, byte x.text.length] ++ codePlaces x.text ++ [byte x.decimals, flagByte x.inverse] ++
    bytes4 x.reference ++ [flagByte x.last.isSome] ++ bytes4 (x.last.getD 0) ++ bytes4Signed x.change ++
    [flagByte x.percent.isSome] ++ bytes4Signed (x.percent.getD 0) ++
    [byte (classIndex x.computed), byte (classIndex x.displayed), flagByte x.halted, byte x.flash] ++
    bytes2 x.age ++ [flagByte x.stale]

/-- The eleven bytes of a lane configuration. -/
def laneConfigBytes (c : LaneConfig) : List Byte :=
  bytes2 c.top ++ [byte c.height] ++ bytes2 c.left ++ bytes2 c.right ++ bytes2 c.gap ++
    [byte c.defaultStyle, byte c.staleColour]

def laneReply (l : Lane) : List Byte :=
  laneConfigBytes l.config ++ bytes2 l.geometry.top ++ [byte l.geometry.height] ++ bytes2 l.geometry.left ++
    bytes2 l.geometry.right ++ [flagByte l.pending.isSome] ++
    (match l.pending with
     | some c => laneConfigBytes c
     | none => List.replicate 11 0) ++
    [byte l.owner, byte (laneStateCode l.state), byte (laneModeCode l.mode), flagByte l.passEnd,
     byte l.base.length, byte l.cursor] ++
    bytes2 l.target ++ bytes2 l.step ++ bytes4 l.increment ++ bytes4 l.crowded.toNat ++ bytes4 l.clipped.toNat ++
    bytes4 l.drained.toNat

/-- The missing-glyph count, and the definition of a defined font. -/
def fontReply (g : GlyphStore) (index : Half) : List Byte :=
  match g.fonts.get index.toNat with
  | none => replyHead 4 index false ++ bytes2 g.missing.toNat
  | some d =>
    replyHead 4 index true ++ bytes2 g.missing.toNat ++ bytes2 d.base ++ bytes2 d.count ++
      [byte d.height, byte d.baseline] ++ bytes2 (d.defaultGlyph.getD 65535)

def movementReply (m : Movement) : List Byte :=
  [byte m.colour, flagByte m.arrow.isSome, m.arrow.getD 0, byte m.flash]

def colourReply (c : Colour) : List Byte := bytes2 c.y ++ bytes2 c.cb ++ bytes2 c.cr

/-- How many indices an object kind has: spec 12 section 12.2. -/
def kindSize (kind : Nat) : Option Nat :=
  match kind with
  | 0 => some 64 | 1 => some 1024 | 2 => some 512 | 3 => some 4 | 4 => some 4 | 5 => some 1024 | 6 => some 12
  | 7 => some 64 | _ => none

/-- The reply payload for an object as it stands: spec 12 R185 and section 12.5. -/
def replyPayload (s : State) (kind : Nat) (index : Half) : List Byte :=
  let n := index.toNat
  match kind with
  | 0 => replyOf 0 index ((if n = 0 then none else styleAt s n).map styleReply)
  | 1 => replyOf 1 index ((itemAt s n).map itemReply)
  | 2 => replyOf 2 index ((symbolAt s.quote n).map symbolReply)
  | 3 => replyOf 3 index (some (laneReply (laneOf s n)))
  | 4 => fontReply s.glyphs index
  | 5 => replyOf 5 index (some [byte (advanceOf s.glyphs n), byte (bitmapOf s.glyphs n)])
  | 6 => replyOf 6 index (some (movementReply (movementAt s.quote n)))
  | _ => replyOf 7 index (some (colourReply (writtenColour s.palette n)))

/-- QUERY: spec 12 R185. -/
def doQuery (h : Header) (kind : Byte) (index : Half) (s : State) : Except Reason State :=
  if h.route ≠ .device then .error .misaddressed
  else
    match kindSize kind.toNat with
    | none => .error .range
    | some size =>
      if size ≤ index.toNat then .error .range
      else if 8 ≤ s.report.replies.length then .error .replyFull
      else .ok { s with report := { s.report with
        replies := s.report.replies ++ [{ seq := h.seq, payload := replyPayload s kind.toNat index }] } }

/-! ## The report lines -/

/-- The contents of the report lines fixed and up to three replies taken from the queue: spec 12 R183. -/
def writeReports (h : StatusHead) (s : State) : State :=
  { s with report :=
    { replies := s.report.replies.drop 3,
      lines := some { count := s.timing.counter, status := statusPayload s.timing.counter h s.lanes,
                      replies := s.report.replies.take 3 } } }

/-- The bytes of a report packet: spec 12 R188. `kind` is 0 for a status report and 1 for a reply; `free` is the byte at
the command code's place, which the specification leaves open (log 13). -/
def reportPacket (address kind free seq : Byte) (payload : List Byte) : List Byte :=
  [0x9A, 0x53] ++ packetBytes address kind free seq payload

/-- Bytes as samples: spec 12 R187. -/
def byteSamples (bs : List Byte) : OutLine := bs.map fun b => some (BitVec.ofNat 10 (256 + b.toNat))

/-- The replies of a report line one after another, the `i`th from `i` on. -/
def replyPackets (address : Byte) (count : Counter) : Nat → List Reply → List Byte
  | _, [] => []
  | i, r :: rs =>
    reportPacket address 1 (Config.freeReportCode count.toNat i) r.seq r.payload ++
      replyPackets address count (i + 1) rs

/-- The first report line, the fifth line of the vertical blanking: spec 12 R183. -/
def firstReportLine (s : State) : OutLine :=
  match s.report.lines with
  | none => []
  | some l =>
    byteSamples (reportPacket (byte (deviceAddress s)) 0 (Config.freeReportCode l.count.toNat 0) (byte l.count.toNat)
      l.status)

/-- The second report line, the sixth line of the vertical blanking: spec 12 R183. -/
def secondReportLine (s : State) : OutLine :=
  match s.report.lines with
  | none => []
  | some l => byteSamples (replyPackets (byte (deviceAddress s)) l.count 1 l.replies)

/-- Line `i` of the vertical blanking of the outgoing frame, counted from 0: spec 01 R10 to R12. Samples the line does
not hold carry blanking level. -/
def outgoingBlanking (s : State) (fr : OutFrame) (i : Nat) : OutLine :=
  if i = 4 then firstReportLine s else if i = 5 then secondReportLine s else fr.blanking.getD i []

end Sys2Proof.Machine
end

