-- ==== Sys2Proof/Machine/Engine.lean ====
section
/-! DEFINITION. The intake and the command engine: arrival, offering, taking, examination, refusal (spec 02 sections 2.2
to 2.4). -/

namespace Sys2Proof.Machine

open Sys2Proof

/-! ## Examination -/

/-- A command's own checks and effect, by its chapter (spec 02 R21 step 4): the state after it, or the reason of its
refusal. -/
def runCommand (h : Header) (c : Command) (s : State) : Except Reason State :=
  match c with
  | .reset scope => doReset h scope s
  | .deviceConfig f => doDeviceConfig h f s
  | .paletteWrite first colours => doPaletteWrite h first colours s
  | .fontDefine f => doFontDefine h f s
  | .fontClear font => doFontClear h font s
  | .glyphMetrics f => doGlyphMetrics h f s
  | .glyphRows f => doGlyphRows h f s
  | .codeMapWrite f => doCodeMapWrite h f s
  | .styleWrite f => doStyleWrite h f s
  | .styleDrop selector => doStyleDrop h selector s
  | .textWrite offset codes => doTextWrite h offset codes s
  | .itemWrite f => doItemWrite h f s
  | .itemDrop item => doItemDrop h item s
  | .playlistWrite lane items => doPlaylistWrite h lane items s
  | .playlistAppend lane items => doPlaylistAppend h lane items s
  | .laneConfig f => doLaneConfig h f s
  | .laneStart lane mode start => doLaneStart h lane mode start s
  | .laneStop lane mode => doLaneStop h lane mode s
  | .laneSpeed lane target step => doLaneSpeed h lane target step s
  | .interject lane items => doInterject h lane items s
  | .interjectCancel lane => doInterjectCancel h lane s
  | .symbolDefine f => doSymbolDefine h f s
  | .symbolDrop symbol => doSymbolDrop h symbol s
  | .quote f => doQuote h f s
  | .quoteBatch pairs => doQuoteBatch h pairs s
  | .reference f => doReference h f s
  | .halt symbol flag => doHalt h symbol flag s
  | .movementWrite f => doMovementWrite h f s
  | .keyOn => doKeyOn h s
  | .keyOff => doKeyOff h s
  | .guardConfig f => doGuardConfig h f s
  | .slateConfig f => doSlateConfig h f s
  | .guardSet action cut => doGuardSet h action cut s
  | .guardRelease => doGuardRelease h s
  | .query kind index => doQuery h kind index s

/-- A recognised command dealt with: applied, or refused with its reason (spec 02 R21 steps 3 and 4, R22). -/
def takeCommand (h : Header) (c : Command) (s : State) : State :=
  if Command.consistent c then
    match runCommand h c s with
    | .ok t => t
    | .error r => refuse h.seq (Command.code c) r s
  else refuse h.seq (Command.code c) .length s

/-- The header of an entry. -/
def headerOf (e : Entry) : Header := { route := e.route, level := e.level.toNat, seq := e.seq }

/-- A taken entry examined: spec 02 R21 steps 1 to 4. -/
def takeEntry (e : Entry) (s : State) : State :=
  if e.damaged then refuse e.seq e.code .checksum s
  else
    match readCommand e.code e.payload with
    | .unknown => refuse e.seq e.code .unknown s
    | .badLength => refuse e.seq e.code .length s
    | .command c => takeCommand (headerOf e) c s

/-! ## Taking -/

/-- The overrun latch cleared, an AUTO INTAKE_OVERRUN out of the active cause set with the end of its condition: spec 02
R20, spec 11 R171. The recomputation is the taking's, at its end. -/
def clearLatch (s : State) : State :=
  let s1 := { s with intake := { s.intake with latch := false } }
  if (causeConfig s.guard .intakeOverrun).latched then s1 else markCause .intakeOverrun false s1

/-- The queue after a taking, the latch cleared where the taking left it empty: spec 02 R20, R21. -/
def removeOldest (rest : List Entry) (s : State) : State :=
  let s1 := { s with intake := { s.intake with queue := rest } }
  if rest.isEmpty && s.intake.latch then clearLatch s1 else s1

/-- The guard state and action recomputed at the end of a taking whose removal of the entry took a cause out of the set
that stood before: spec 11 R174 (log 29). Where the command has recomputed already, nothing is left to change. -/
def settleTaking (before : CauseSet) (removed : State) (s : State) : State :=
  if removed.guard.active = before then s else recompute s

/-- One taking, where the engine is IDLE and an entry waits: spec 02 R21. -/
def takeOldest (s : State) : State :=
  match s.engine.op, s.intake.queue with
  | none, e :: rest => settleTaking s.guard.active (removeOldest rest s) (takeEntry e (removeOldest rest s))
  | _, _ => s

/-- Takings one after another, at most `fuel` of them: spec 02 R21. -/
def takeUpTo : Nat → State → State
  | 0, s => s
  | fuel + 1, s => takeUpTo fuel (takeOldest s)

/-- The engine takes entries until it is BUSY or the queue is empty: spec 02 R21. A taking adds no entry, so there are at
most as many as entries wait. -/
def drainQueue (s : State) : State := takeUpTo s.intake.queue.length s

/-! ## Offering -/

/-- A packet dropped: spec 02 R19, with the onset of INTAKE_OVERRUN at the drop that sets the latch (spec 02 R20, spec 11
R170). -/
def dropPacket (s : State) : State :=
  let s1 := { s with intake := { s.intake with dropped := s.intake.dropped + 1, latch := true } }
  if s.intake.latch then s1 else causeOnset .intakeOverrun s1

/-- An entry appended to the queue: spec 02 R18. -/
def appendEntry (e : Entry) (s : State) : State :=
  { s with intake := { s.intake with queue := s.intake.queue ++ [e] } }

/-- A matching packet offered to the queue: spec 02 R18, R19. Where the engine is IDLE the arrival is followed by the
taking of the oldest entry. -/
def offer (e : Entry) (s : State) : State :=
  if s.intake.queue.length < 16 ∧ s.intake.latch = false then takeOldest (appendEntry e s) else dropPacket s

/-- The engine is IDLE with nothing before it: what is offered now is taken at once. -/
def isReady (s : State) : Bool := s.engine.op.isNone && s.intake.queue.isEmpty && !s.intake.latch

/-- A command's undamaged packet, matched to this part, offered and, where the engine is IDLE with an empty queue, taken
at once (spec 02 R18, R21, log 2). -/
def submit (h : Header) (c : Command) (s : State) : State :=
  if isReady s then takeCommand h c s else offer (entryOf h c) s

/-- An entry that is no recognised undamaged command, offered and where possible taken (spec 02 R18, R21, log 2). -/
def submitEntry (e : Entry) (s : State) : State :=
  if isReady s then takeEntry e s else offer e s

/-! ## Arrival -/

/-- The route of a packet with a given address: spec 02 R16. -/
def routeOf (s : State) (address : Nat) : Option Route :=
  if address = deviceAddress s then some .device
  else if s.intake.groupAddress = some address then some .group
  else if address = 31 then some .all
  else none

/-- The byte of a packet at a place from its address on; one that a truncated packet did not deliver is 0 (spec 02
R17). -/
def packetField (p : Found) (i : Nat) : Byte := p.bytes.getD i 0

/-- Spec 02 R17: the packet is damaged. -/
def isDamaged (p : Found) : Bool :=
  p.truncated || byteSum p.bytes != 0 || decide (240 < (packetField p 4).toNat) || decide (3 < (packetField p 1).toNat)

/-- The entry a matching packet becomes: spec 02 section 2.2, R17. -/
def entryOfPacket (r : Route) (p : Found) : Entry :=
  { route := r, level := packetField p 1, code := packetField p 2, seq := packetField p 3,
    payload := (p.bytes.drop 5).take (min (packetField p 4).toNat 240), damaged := isDamaged p }

/-- PACKET_ARRIVAL: spec 02 R16 to R19. -/
def arrive (p : Found) (s : State) : State :=
  match p.kind, p.bytes with
  | .control, a :: _ =>
    match routeOf s a.toNat with
    | some r => offer (entryOfPacket r p) s
    | none => s
  | _, _ => s

/-- Packets arriving one after another: spec 02 R16. -/
def arriveAll : List Found → State → State
  | [], s => s
  | p :: ps, s => arriveAll ps (arrive p s)

end Sys2Proof.Machine
end

