-- ==== Sys2Proof/Machine/Render.lean ====
section
/-! DEFINITION. The renderer and the mixing of the keyer: rows of coverage, clipping, layers, one active line (spec 10,
spec 11 R178, spec 01 R10). -/

namespace Sys2Proof.Machine

open Sys2Proof

/-! ## Rows of coverage -/

/-- The codes an entry shows with their palette indices; an entry without text has none (spec 10 R157). -/
def shownCodes (e : SnapEntry) : List (Byte × Nat) :=
  match e.shown with
  | .text codes => painted e.style.textColour codes
  | .quote (some codes) => codes
  | .quote none => []
  | .separator code => [(code, e.style.textColour)]

/-- The slot column at which the first code begins: spec 10 R157. -/
def startColumn (g : GlyphStore) (e : SnapEntry) : Nat :=
  match e.shown with
  | .separator code => (e.width - advanceTotal g e.style.font [code]) / 2
  | _ => e.style.padLeft

/-- The laid-out end of an entry: spec 10 R157. -/
def laidEnd (g : GlyphStore) (e : SnapEntry) : Nat :=
  startColumn g e + advanceTotal g e.style.font ((shownCodes e).map Prod.fst)

/-- The blank at the slot's right that no text enters: pad right, or none for a separator (spec 10 R159). -/
def clipPad (e : SnapEntry) : Nat :=
  match e.shown with
  | .separator _ => 0
  | _ => e.style.padRight

/-- An entry is clipped at the slot: spec 10 R160. -/
def isClipped (g : GlyphStore) (e : SnapEntry) : Bool := decide (e.width < laidEnd g e + clipPad e)

/-- The glyph row drawn on a line, for a band or region of a given top and height: spec 10 R157. -/
def glyphRow (g : GlyphStore) (font top height line : Nat) : Option Nat :=
  match g.fonts.get font with
  | none => none
  | some d =>
    let r : Int := (line : Int) - ((top : Int) + ((height : Int) - (d.height : Int)) / 2)
    if 0 ≤ r ∧ r < (d.height : Int) then some r.toNat else none

/-- One glyph's columns in one row, `n` of them still to come from column `j` on: coverage and palette index. -/
def glyphCells (g : GlyphStore) (slot : Nat) (row : Option Nat) (index : Nat) (j : Nat) : Nat → List (Nat × Nat)
  | 0 => []
  | n + 1 =>
    (match row with
     | some r => if j < bitmapOf g slot then coverageOf g slot r j else 0
     | none => 0, index) :: glyphCells g slot row index (j + 1) n

/-- The columns of a sequence of codes laid side by side: spec 10 R157. A missing code occupies none. -/
def codeCells (g : GlyphStore) (font : Nat) (row : Option Nat) : List (Byte × Nat) → List (Nat × Nat)
  | [] => []
  | (c, index) :: cs =>
    (match lookup g font c with
     | some slot => glyphCells g slot row index 0 (advanceOf g slot)
     | none => []) ++ codeCells g font row cs

/-- Exactly `n` columns of a row: those given, then columns without coverage in the index of the last (log 24). -/
def fitCells : Nat → Nat → List (Nat × Nat) → List (Nat × Nat)
  | 0, _, _ => []
  | n + 1, last, [] => (0, last) :: fitCells n last []
  | n + 1, _, (a, i) :: cs => (a, i) :: fitCells n i cs

/-- The coverage taken as 0 at and beyond a clip column (spec 10 R159); `j` is the column of the first. -/
def clipCells (clip : Nat) (j : Nat) : List (Nat × Nat) → List (Nat × Nat)
  | [] => []
  | (a, i) :: cs => (if clip ≤ j then 0 else a, i) :: clipCells clip (j + 1) cs

/-- The row shifted by a phase: spec 10 R158. `before` is the coverage and palette index of the column to the left; the
answer has one column more than the row, in the index of the row's last column. -/
def shiftCells (p : Nat) (before : Nat × Nat) : List (Nat × Nat) → List (Nat × Nat)
  | [] => [((before.1 * p + 4) / 8, before.2)]
  | (a, i) :: cs => ((a * (8 - p) + before.1 * p + 4) / 8, i) :: shiftCells p (a, i) cs

/-- The row of text of a slot: `width` columns, laid from `start`, clipped at `clip`, shifted by the phase. -/
def textRow (g : GlyphStore) (font : Nat) (row : Option Nat) (codes : List (Byte × Nat)) (start width clip phase : Nat) :
    List (Nat × Nat) :=
  shiftCells phase (0, 0)
    (clipCells clip 0 (fitCells width 0 (List.replicate start (0, 0) ++ codeCells g font row codes)))

/-- The drawn coverage of a snapshot entry on a line: spec 10 R157 to R159. -/
def entryRow (g : GlyphStore) (top height line : Nat) (e : SnapEntry) : List (Nat × Nat) :=
  textRow g e.style.font (glyphRow g e.style.font top height line) (shownCodes e) (startColumn g e) e.width
    (e.width - clipPad e) e.phase

/-! ## Mixing -/

/-- The weight of a layer of opacity `o` at key level `k`: spec 10 R162. -/
def alphaOf (o k : Nat) : Nat := o * k / 256

/-- One component mixed: spec 10 R162. -/
def mixValue (v c α : Nat) : Nat := (v * (256 - α) + c * α + 128) / 256

/-- One pixel mixed with a palette colour at a weight: spec 10 R162. -/
def mixPixel (p : Pixel) (c : Colour) (α : Nat) : Pixel :=
  ⟨mixValue p.y c.y α, mixValue p.cb c.cb α, mixValue p.cr c.cr α⟩

/-- The opacity of text of a given coverage: spec 10 R162. -/
def textOpacity (c : Nat) : Nat := (c * 256 + 7) / 15

/-- A fill layer over the columns `lo..hi - 1`; `x` is the column of the first pixel. -/
def fillLayer (c : Colour) (α : Nat) (lo hi : Int) (x : Nat) : List Pixel → List Pixel
  | [] => []
  | p :: ps => (if lo ≤ (x : Int) ∧ (x : Int) < hi then mixPixel p c α else p) :: fillLayer c α lo hi (x + 1) ps

/-- A text layer: the row's column 0 lies at picture column `origin`, and only the columns `lo..hi - 1` are drawn. -/
def textLayer (pal : Palette) (k : Nat) (row : List (Nat × Nat)) (origin lo hi : Int) (x : Nat) :
    List Pixel → List Pixel
  | [] => []
  | p :: ps =>
    let j : Int := (x : Int) - origin
    let q := if lo ≤ (x : Int) ∧ (x : Int) < hi ∧ 0 ≤ j then
        match row[j.toNat]? with
        | some (c, i) => if 0 < c then mixPixel p (displayedColour pal i) (alphaOf (textOpacity c) k) else p
        | none => p
      else p
    q :: textLayer pal k row origin lo hi (x + 1) ps

/-! ## One line -/

/-- A line lies in the snapshot's band: spec 10 section 10.2. -/
def inBand (sn : Snapshot) (line : Nat) : Bool := decide (sn.top ≤ line ∧ line < sn.top + sn.height)

/-- The slot background of an entry: spec 10 R156, clipped to the viewport by R159. -/
def backgroundLayer (pal : Palette) (k : Nat) (sn : Snapshot) (px : List Pixel) (e : SnapEntry) : List Pixel :=
  let origin : Int := (sn.left : Int) + e.position
  fillLayer (displayedColour pal e.style.bandColour) (alphaOf e.style.bandOpacity k)
    (max origin sn.left) (min (origin + e.width + 1) (sn.left + sn.width)) 0 px

/-- The text of an entry: spec 10 R157 to R159. -/
def entryTextLayer (g : GlyphStore) (pal : Palette) (k : Nat) (sn : Snapshot) (line : Nat) (px : List Pixel)
    (e : SnapEntry) : List Pixel :=
  textLayer pal k (entryRow g sn.top sn.height line e) ((sn.left : Int) + e.position) sn.left (sn.left + sn.width) 0 px

/-- The layers of one lane on a line: spec 10 R161. -/
def laneLayers (g : GlyphStore) (pal : Palette) (k line : Nat) (px : List Pixel) (sn : Snapshot) : List Pixel :=
  if inBand sn line then
    let p1 := match sn.band with
      | some (colour, opacity) =>
        fillLayer (displayedColour pal colour) (alphaOf opacity k) sn.left (sn.left + sn.width) 0 px
      | none => px
    let p2 := sn.entries.foldl (backgroundLayer pal k sn) p1
    sn.entries.foldl (entryTextLayer g pal k sn line) p2
  else px

/-- The region of the slate clamped against a format: spec 11 R178. -/
def slateRegion (c : SlateConfig) (f : Format) : Geometry :=
  geometryOf { top := c.top, height := c.height, left := c.left, right := c.right, gap := 0, defaultStyle := 0,
               staleColour := 0 } f

/-- The slate's fill and text on a line, mixed at key level 256: spec 11 R178. -/
def slateLayers (g : GlyphStore) (pal : Palette) (f : Format) (c : SlateConfig) (r : ResolvedSlate) (line : Nat)
    (px : List Pixel) : List Pixel :=
  let region := slateRegion c f
  if region.top ≤ line ∧ line < region.top + region.height then
    let p1 := fillLayer (displayedColour pal r.style.bandColour) (alphaOf r.style.bandOpacity 256) region.left
      region.right 0 px
    let origin : Int := (region.left : Int) + (((region.width - r.width) / 2 : Nat) : Int)
    let row := textRow g r.style.font (glyphRow g r.style.font region.top region.height line)
      (painted r.style.textColour r.codes) r.style.padLeft r.width (r.width - r.style.padRight) 0
    textLayer pal 256 row origin region.left region.right 0 p1
  else px

/-- The slate where it is shown: the last layer of spec 10 R161. -/
def slateLayer (s : State) (pal : Palette) (f : Format) (line : Nat) (px : List Pixel) : List Pixel :=
  match s.guard.resolved, s.guard.slate with
  | some r, some c => slateLayers s.glyphs pal f c r line px
  | _, _ => px

/-- Uniform black: spec 01 R10. -/
def blackPixel : Pixel := ⟨64, 512, 512⟩

/-- `n` picture elements of a delayed line; what the line does not hold is black. -/
def fitLine : Nat → List Pixel → List Pixel
  | 0, _ => []
  | n + 1, [] => blackPixel :: fitLine n []
  | n + 1, p :: ps => p :: fitLine n ps

/-- The programme picture under the lanes: the delayed line in a frame begun in FOLLOWING where the followed frame
delivered it, black otherwise (spec 01 R10). -/
def programmeLine (fr : OutFrame) (programme : Option (List Pixel)) : List Pixel :=
  match programme with
  | some p => if fr.following then fitLine (activeWidth fr.format) p else fitLine (activeWidth fr.format) []
  | none => fitLine (activeWidth fr.format) []

/-- The line as it leaves the output port, in the colours of a palette: spec 10 R161, R162. -/
def renderLine (s : State) (pal : Palette) (fr : OutFrame) (line : Nat) (programme : Option (List Pixel)) : List Pixel :=
  let base := programmeLine fr programme
  let lanes := match s.renderer.frameSet with
    | some q => q.toList.foldl (laneLayers s.glyphs pal s.keyer.level line) base
    | none => base
  slateLayer s pal fr.format line lanes

/-! ## Counting of clipping (spec 10 R160) -/

/-- Whether a placed entry with a number is on the list with its clipped mark set. -/
def markedOnScreen (l : Lane) (number : Nat) : Bool :=
  l.screen.any fun p => p.number == number && p.entry.clipped

/-- The clipped mark set on the entry with a number, if it is still on the list. -/
def markOnScreen (l : Lane) (number : Nat) : Lane :=
  { l with screen := l.screen.map fun p =>
      if p.number = number then { p with entry := { p.entry with clipped := true } } else p }

/-- One entry of the frame set judged on a line: spec 10 R160. -/
def judgeEntry (g : GlyphStore) (l : Lane) (e : SnapEntry) : Lane × SnapEntry :=
  if isClipped g e && !e.clipped && !markedOnScreen l e.number then
    ({ markOnScreen l e.number with clipped := l.clipped + 1 }, { e with clipped := true })
  else (l, e)

/-- The entries of a snapshot judged in order. -/
def judgeEntries (g : GlyphStore) (l : Lane) : List SnapEntry → Lane × List SnapEntry
  | [] => (l, [])
  | e :: es =>
    match judgeEntry g l e with
    | (l1, e1) =>
      match judgeEntries g l1 es with
      | (l2, es2) => (l2, e1 :: es2)

/-- A lane's snapshot judged on a line of its band. -/
def judgeLane (g : GlyphStore) (line : Nat) (l : Lane) (sn : Snapshot) : Lane × Snapshot :=
  if inBand sn line then
    match judgeEntries g l sn.entries with
    | (l1, es) => (l1, { sn with entries := es })
  else (l, sn)

/-- All four lanes judged on a line. -/
def judgeLanes (g : GlyphStore) (line : Nat) (ls : Quad Lane) (q : Quad Snapshot) : Quad Lane × Quad Snapshot :=
  let r0 := judgeLane g line ls.q0 q.q0
  let r1 := judgeLane g line ls.q1 q.q1
  let r2 := judgeLane g line ls.q2 q.q2
  let r3 := judgeLane g line ls.q3 q.q3
  (⟨r0.1, r1.1, r2.1, r3.1⟩, ⟨r0.2, r1.2, r2.2, r3.2⟩)

/-- The marks and counters after a line is drawn. -/
def countClipping (line : Nat) (s : State) : State :=
  match s.renderer.frameSet with
  | none => s
  | some q =>
    let r := judgeLanes s.glyphs line s.lanes q
    { s with lanes := r.1, renderer := { s.renderer with frameSet := some r.2 } }

/-- A line of a frame drawn and mixed from the frame set as it stands, in the colours of a palette, with its clipped
entries marked: spec 10 R157, R160 to R162. -/
def mixLine (pal : Palette) (fr : OutFrame) (line : Nat) (programme : Option (List Pixel)) (s : State) : State :=
  let s1 := countClipping line s
  { s1 with renderer := { s1.renderer with lastLine := some (line, renderLine s pal fr line programme) } }

/-- DRAW_LINE with a frame in progress and a line still to draw: spec 10 R157, R160 to R162. -/
def drawNext (s : State) (fr : OutFrame) (programme : Option (List Pixel)) : State :=
  let s1 := mixLine s.palette fr s.renderer.nextLine programme s
  { s1 with renderer := { s1.renderer with nextLine := s.renderer.nextLine + 1 } }

end Sys2Proof.Machine
end

