-- ==== Sys2Proof/Machine/Frame.lean ====
section
/-! DEFINITION. The events of the part: the output frame start with the blocks that act on it, the good frame, the window
expiry, the release of reset, the drawing of a line (spec 01, spec 10 R154). -/

namespace Sys2Proof.Machine

open Sys2Proof

/-! ## The output frame start -/

/-- The format of the frame that begins: that of the next followed start, or the output format (spec 01 R7, R8). -/
def startFormat (t : OutputTiming) : Format :=
  match t.starts with
  | [] => t.format
  | next :: _ => next.format

/-- The blanking lines of the frame that begins: those of the next followed start in FOLLOWING, and blanking level in
FLYWHEEL (spec 01 R10, R11). In FOLLOWING with no start waiting, which R7 does not provide for, it is blanking level too
(DESIGN CHOICE, log 30). -/
def startBlanking (t : OutputTiming) : List OutLine :=
  match t.mode, t.starts with
  | .following, next :: _ => next.blanking
  | _, _ => []

/-- The frame start carries the mark of a format change: spec 01 R8. -/
def formatChanged (t : OutputTiming) : Bool := startFormat t != t.format

/-- Output timing at an output frame start: spec 01 R8 to R10. In FOLLOWING with no start waiting, which R7 does not provide
for, the start is counted like any other and its frame is marked as following (DESIGN CHOICE, log 30). -/
def timingFrame (t : OutputTiming) : OutputTiming :=
  { t with format := startFormat t, counter := t.counter + 1, starts := t.starts.tail,
           frame := some { format := startFormat t, following := t.mode == .following, blanking := startBlanking t } }

/-- What goes before the acts whose order shows: output timing itself, the palette (spec 04 R58), and the renderer's place
at the top of the frame (log 5). -/
def beginFrame (s : State) : State :=
  { s with timing := timingFrame s.timing, palette := paletteFrame s.palette,
           renderer := { s.renderer with nextLine := 0 } }

/-- The acts in the order taken where none is named (log 5). -/
def defaultOrder : List FrameAct :=
  [.lane 0, .snapshot 0, .lane 1, .snapshot 1, .lane 2, .snapshot 2, .lane 3, .snapshot 3, .quote, .guard, .keyer,
   .report]

/-- What the acts have made so far, with the state as it stood before the start. -/
structure FrameRun where
  ending : State
  state : State
  snaps : Quad Snapshot
  head : StatusHead
  done : List FrameAct
deriving DecidableEq, Repr

/-- The act is the renderer's, on a line of the ending frame. -/
def FrameAct.isLine : FrameAct → Bool
  | .line _ => true
  | _ => false

/-- An act may be made: it has not been, a snapshot comes after its lane's stages (spec 07 R114), and one line at most is
in drawing. -/
def mayAct (done : List FrameAct) (a : FrameAct) : Bool :=
  match a with
  | .snapshot m => !done.contains a && done.contains (.lane m)
  | .line _ => !done.any FrameAct.isLine
  | _ => !done.contains a

/-- The line of the ending frame that the output frame start overtakes, drawn from that frame's set and displayed table,
its clipped entries marked (spec 10 R154, R160, spec 04 R58, log 15). -/
def overtakeLine (ending : State) (programme : Option (List Pixel)) (s : State) : State :=
  match ending.timing.frame with
  | none => s
  | some fr =>
    if ending.renderer.nextLine < activeLines fr.format then
      mixLine ending.palette fr ending.renderer.nextLine programme s
    else s

/-- One block's act on the output frame start: spec 01 R9. -/
def makeAct (changed : Bool) (a : FrameAct) (r : FrameRun) : FrameRun :=
  let s := r.state
  match a with
  | .lane m => { r with state := laneAct m.val s }
  | .snapshot m => { r with snaps := r.snaps.set m.val (snapshotOf s (laneOf s m.val)) }
  | .quote => { r with state := { s with quote := quoteFrame s.timing.format changed s.quote } }
  | .guard => { r with state := guardEvaluate s }
  | .keyer => { r with state := { s with keyer := fadeStep s.keyer } }
  | .report => { r with head := readHead s }
  | .line programme => { r with state := overtakeLine r.ending programme s }

/-- The acts of a list, each that may be made. -/
def makeActs (changed : Bool) : List FrameAct → FrameRun → FrameRun
  | [], r => r
  | a :: as, r =>
    makeActs changed as (if mayAct r.done a then { makeAct changed a r with done := a :: r.done } else r)

/-- A snapshot that shows nothing; each lane's own takes its place. -/
def Snapshot.blank : Snapshot :=
  { top := 0, height := 0, left := 0, width := 0, staleColour := 0, selector := 0, band := none, entries := [] }

/-- The frame set replaced by the four snapshots, and the report lines fixed: spec 10 R154, spec 12 R183. -/
def endFrame (r : FrameRun) : State :=
  writeReports r.head { r.state with renderer := { r.state.renderer with frameSet := some r.snaps } }

/-- An output frame start: spec 01 R9. The blocks act in the order named, and those not named by the default order
(log 5). -/
def frameStart (order : List FrameAct) (s : State) : State :=
  let s1 := beginFrame s
  endFrame (makeActs (formatChanged s.timing) (order ++ defaultOrder)
    { ending := s, state := s1, snaps := .all .blank, head := readHead s1, done := [] })

/-! ## Input events -/

/-- The input frame start as output timing acts on it (spec 01 R5, R7): in LOCKED it produces an output frame start, after
those still to come, or in place of them where this frame has caused the lock (R8). `before` is the input state before the
frame. -/
def followFrame (f : Format) (blanking : List Line) (before : InputState) (s : State) : State :=
  if s.input.state = .locked then
    let start : FollowedStart := { format := f, blanking := delayedLines (deviceAddress s) 0 blanking }
    { s with timing := { s.timing with
        starts := if before = .locked then s.timing.starts ++ [start] else [start] } }
  else s

/-- The arrival of a frame at the input port: spec 01 R1, R2, R5, R6. Of the packets in its carriage
lines the first `handed` arrive within the event, the others by PACKET_ARRIVAL (log 4). A frame that is not good has no
effect. -/
def frameArrives (fs : FrameStructure) (blanking : Blanking) (s : State) : State :=
  match judge fs with
  | none => s
  | some f =>
    arriveAll ((packetsOfFrame blanking.lines).take blanking.handed)
      (followFrame f blanking.lines s.input.state (changeInput (goodFrameInput f s.input) s))

/-- The expiry of the frame window: spec 01 R3. -/
def windowExpires (s : State) : State := changeInput (expiryInput s.input) s

/-- The release of a power-on reset: spec 01 R13, spec 11 R181; which of the two comes first is an operand (log 8). -/
def releaseReset (guardFirst : Bool) (order : List FrameAct) (s : State) : State :=
  let s1 := { s with pins := { s.pins with resetLow := false } }
  if guardFirst then frameStart order (joinPresent s1) else joinPresent (frameStart order s1)

/-! ## Drawing -/

/-- DRAW_LINE: the next active line of the outgoing frame, where there is one (log 15, log 17). -/
def drawLine (programme : Option (List Pixel)) (s : State) : State :=
  match s.timing.frame with
  | none => s
  | some fr => if s.renderer.nextLine < activeLines fr.format then drawNext s fr programme else s

end Sys2Proof.Machine
end

