-- ==== Sys2Proof/Machine/Completions.lean ====
section
/-! DEFINITION. The completions of the in-flight operations, with the takings that follow and what comes about among them
(spec 02 R21, R26, spec 04 R49, R51). -/

namespace Sys2Proof.Machine

open Sys2Proof

/-- One taking, or one event among takings (log 3). After a power-on reset only its release acts (log 7). -/
def meanwhile (e : Meanwhile) (s : State) : State :=
  if s.pins.resetLow then s
  else
    match e with
    | .taking => takeOldest s
    | .arrival p => arrive p s
    | .goodFrame frame blanking => frameArrives frame blanking s
    | .frameWindowExpiry => windowExpires s
    | .outputFrameStart order => frameStart order s
    | .drawLine programme => drawLine programme s
    | .powerOnReset => powerOnReset s

/-- Takings and events one after another. -/
def meanwhileAll : List Meanwhile → State → State
  | [], s => s
  | e :: es, s => meanwhileAll es (meanwhile e s)

/-- The completion of the in-flight operation: spec 02 R26, spec 04 R49, R51. The engine is IDLE and takes the oldest entry,
then makes the takings and meets the events of the list, and then takes what still waits (log 3). -/
def finishOp (op : InFlight) (among : List Meanwhile) (s : State) : State :=
  drainQueue (meanwhileAll among
    (takeOldest { s with glyphs := completeOp s.glyphs op, engine := { s.engine with op := none } }))

/-- GLYPH_ROWS_COMPLETION, where a GLYPH_ROWS is in flight: spec 04 R49, spec 02 R26 (log 17). -/
def completeGlyphRows (among : List Meanwhile) (s : State) : State :=
  match s.engine.op with
  | some (.glyphRows f slot) => finishOp (.glyphRows f slot) among s
  | _ => s

/-- FONT_CLEAR_COMPLETION, where a FONT_CLEAR is in flight: spec 04 R51, spec 02 R26 (log 17). -/
def completeFontClear (among : List Meanwhile) (s : State) : State :=
  match s.engine.op with
  | some (.fontClear font base count) => finishOp (.fontClear font base count) among s
  | _ => s

end Sys2Proof.Machine
end

