-- ==== Sys2Proof/Machine/Commands.lean ====
section
/-! DEFINITION. The meaning of each command and event: one definition for each row of the opcode table. -/

namespace Sys2Proof.Machine

open Sys2Proof

/-- What a command or event does while no power-on reset is applied; while the reset pin is low nothing arrives and
nothing happens (spec 01 R13, log 7). -/
def whileRunning (f : State → State) (s : State) : Host.Outcome State Fault Refusal :=
  .next (if s.pins.resetLow then s else f s)

/-- The undamaged entry of a packet with a given code and payload (spec 02 section 2.2). -/
def plainEntry (h : Header) (code : Byte) (payload : List Byte) : Entry :=
  { route := h.route, level := byte h.level, code := code, seq := h.seq, payload := payload, damaged := false }

/-- POWER_ON_RESET: spec 01 R13, spec 02 R31. -/
def execPowerOnReset (s : State) : Host.Outcome State Fault Refusal :=
  .next (powerOnReset s)

/-- RESET_RELEASE: spec 01 R13, spec 11 R181. -/
def execResetRelease (guardFirst : Bool) (order : List FrameAct) (s : State) : Host.Outcome State Fault Refusal :=
  .next (releaseReset guardFirst order s)

/-- GOOD_FRAME: spec 01 R1, R2, R5, R6. -/
def execGoodFrame (frame : FrameStructure) (blanking : Blanking) (s : State) : Host.Outcome State Fault Refusal :=
  whileRunning (frameArrives frame blanking) s

/-- FRAME_WINDOW_EXPIRY: spec 01 R3. -/
def execFrameWindowExpiry (s : State) : Host.Outcome State Fault Refusal :=
  whileRunning windowExpires s

/-- OUTPUT_FRAME_START: spec 01 R9. -/
def execOutputFrameStart (order : List FrameAct) (s : State) : Host.Outcome State Fault Refusal :=
  whileRunning (frameStart order) s

/-- PACKET_ARRIVAL: spec 02 R16 to R19. -/
def execPacketArrival (p : Found) (s : State) : Host.Outcome State Fault Refusal :=
  whileRunning (arrive p) s

/-- DAMAGED_ENTRY: spec 02 R17, R21 step 1. -/
def execDamagedEntry (e : Entry) (s : State) : Host.Outcome State Fault Refusal :=
  whileRunning (submitEntry { e with damaged := true }) s

/-- UNKNOWN_COMMAND: spec 02 R21 step 2. -/
def execUnknownCommand (h : Header) (code : Byte) (payload : List Byte) (s : State) :
    Host.Outcome State Fault Refusal :=
  whileRunning (submitEntry (plainEntry h code payload)) s

/-- RESET_RUN: spec 02 R29, R30. -/
def execResetRun (h : Header) (s : State) : Host.Outcome State Fault Refusal :=
  whileRunning (submit h (.reset 0)) s

/-- RESET_ALL: spec 02 R29, R30. -/
def execResetAll (h : Header) (s : State) : Host.Outcome State Fault Refusal :=
  whileRunning (submit h (.reset 1)) s

/-- DEVICE_CONFIG: spec 02 R27, R28. -/
def execDeviceConfig (h : Header) (f : DeviceFields) (s : State) : Host.Outcome State Fault Refusal :=
  whileRunning (submit h (.deviceConfig f)) s

/-- PALETTE_WRITE: spec 04 R57. -/
def execPaletteWrite (h : Header) (first : Byte) (colours : List ColourField) (s : State) :
    Host.Outcome State Fault Refusal :=
  whileRunning (submit h (.paletteWrite first colours)) s

/-- FONT_DEFINE: spec 04 R44, R45. -/
def execFontDefine (h : Header) (f : FontFields) (s : State) : Host.Outcome State Fault Refusal :=
  whileRunning (submit h (.fontDefine f)) s

/-- FONT_CLEAR: spec 04 R50, spec 02 R24. -/
def execFontClear (h : Header) (font : Byte) (s : State) : Host.Outcome State Fault Refusal :=
  whileRunning (submit h (.fontClear font)) s

/-- GLYPH_METRICS: spec 04 R47. -/
def execGlyphMetrics (h : Header) (f : MetricsFields) (s : State) : Host.Outcome State Fault Refusal :=
  whileRunning (submit h (.glyphMetrics f)) s

/-- GLYPH_ROWS: spec 04 R48, spec 02 R24. -/
def execGlyphRows (h : Header) (f : RowsFields) (s : State) : Host.Outcome State Fault Refusal :=
  whileRunning (submit h (.glyphRows f)) s

/-- CODE_MAP_WRITE: spec 04 R53. -/
def execCodeMapWrite (h : Header) (f : CodeMapFields) (s : State) : Host.Outcome State Fault Refusal :=
  whileRunning (submit h (.codeMapWrite f)) s

/-- STYLE_WRITE: spec 05 R61, R62. -/
def execStyleWrite (h : Header) (f : StyleFields) (s : State) : Host.Outcome State Fault Refusal :=
  whileRunning (submit h (.styleWrite f)) s

/-- STYLE_DROP: spec 05 R63. -/
def execStyleDrop (h : Header) (selector : Byte) (s : State) : Host.Outcome State Fault Refusal :=
  whileRunning (submit h (.styleDrop selector)) s

/-- TEXT_WRITE: spec 05 R68, R69. -/
def execTextWrite (h : Header) (offset : Half) (codes : List Byte) (s : State) : Host.Outcome State Fault Refusal :=
  whileRunning (submit h (.textWrite offset codes)) s

/-- ITEM_WRITE: spec 06 R75, R76. -/
def execItemWrite (h : Header) (f : ItemFields) (s : State) : Host.Outcome State Fault Refusal :=
  whileRunning (submit h (.itemWrite f)) s

/-- ITEM_DROP: spec 06 R80. -/
def execItemDrop (h : Header) (item : Half) (s : State) : Host.Outcome State Fault Refusal :=
  whileRunning (submit h (.itemDrop item)) s

/-- PLAYLIST_WRITE: spec 06 R83, R84. -/
def execPlaylistWrite (h : Header) (lane : Byte) (items : List Half) (s : State) : Host.Outcome State Fault Refusal :=
  whileRunning (submit h (.playlistWrite lane items)) s

/-- PLAYLIST_APPEND: spec 06 R85. -/
def execPlaylistAppend (h : Header) (lane : Byte) (items : List Half) (s : State) :
    Host.Outcome State Fault Refusal :=
  whileRunning (submit h (.playlistAppend lane items)) s

/-- LANE_CONFIG: spec 07 R90. -/
def execLaneConfig (h : Header) (f : LaneFields) (s : State) : Host.Outcome State Fault Refusal :=
  whileRunning (submit h (.laneConfig f)) s

/-- LANE_START: spec 07 R93. -/
def execLaneStart (h : Header) (lane mode start : Byte) (s : State) : Host.Outcome State Fault Refusal :=
  whileRunning (submit h (.laneStart lane mode start)) s

/-- LANE_STOP_DRAIN: spec 07 R94. -/
def execLaneStopDrain (h : Header) (lane : Byte) (s : State) : Host.Outcome State Fault Refusal :=
  whileRunning (submit h (.laneStop lane 0)) s

/-- LANE_STOP_CUT: spec 07 R95. -/
def execLaneStopCut (h : Header) (lane : Byte) (s : State) : Host.Outcome State Fault Refusal :=
  whileRunning (submit h (.laneStop lane 1)) s

/-- LANE_SPEED: spec 07 R105. -/
def execLaneSpeed (h : Header) (lane : Byte) (target step : Half) (s : State) : Host.Outcome State Fault Refusal :=
  whileRunning (submit h (.laneSpeed lane target step)) s

/-- INTERJECT: spec 08 R122, R123. -/
def execInterject (h : Header) (lane : Byte) (items : List Half) (s : State) : Host.Outcome State Fault Refusal :=
  whileRunning (submit h (.interject lane items)) s

/-- INTERJECT_CANCEL: spec 08 R128. -/
def execInterjectCancel (h : Header) (lane : Byte) (s : State) : Host.Outcome State Fault Refusal :=
  whileRunning (submit h (.interjectCancel lane)) s

/-- SYMBOL_DEFINE: spec 09 R132, R133. -/
def execSymbolDefine (h : Header) (f : SymbolFields) (s : State) : Host.Outcome State Fault Refusal :=
  whileRunning (submit h (.symbolDefine f)) s

/-- SYMBOL_DROP: spec 09 R134. -/
def execSymbolDrop (h : Header) (symbol : Half) (s : State) : Host.Outcome State Fault Refusal :=
  whileRunning (submit h (.symbolDrop symbol)) s

/-- QUOTE: spec 09 R135. -/
def execQuote (h : Header) (f : PriceFields) (s : State) : Host.Outcome State Fault Refusal :=
  whileRunning (submit h (.quote f)) s

/-- QUOTE_BATCH: spec 09 R136. -/
def execQuoteBatch (h : Header) (pairs : List PriceFields) (s : State) : Host.Outcome State Fault Refusal :=
  whileRunning (submit h (.quoteBatch pairs)) s

/-- REFERENCE: spec 09 R137. -/
def execReference (h : Header) (f : PriceFields) (s : State) : Host.Outcome State Fault Refusal :=
  whileRunning (submit h (.reference f)) s

/-- HALT: spec 09 R138. -/
def execHalt (h : Header) (symbol : Half) (flag : Byte) (s : State) : Host.Outcome State Fault Refusal :=
  whileRunning (submit h (.halt symbol flag)) s

/-- MOVEMENT_WRITE: spec 09 R143. -/
def execMovementWrite (h : Header) (f : MovementFields) (s : State) : Host.Outcome State Fault Refusal :=
  whileRunning (submit h (.movementWrite f)) s

/-- KEY_ON: spec 10 R164. -/
def execKeyOn (h : Header) (s : State) : Host.Outcome State Fault Refusal :=
  whileRunning (submit h .keyOn) s

/-- KEY_OFF: spec 10 R164. -/
def execKeyOff (h : Header) (s : State) : Host.Outcome State Fault Refusal :=
  whileRunning (submit h .keyOff) s

/-- GUARD_CONFIG: spec 11 R169. -/
def execGuardConfig (h : Header) (f : CauseFields) (s : State) : Host.Outcome State Fault Refusal :=
  whileRunning (submit h (.guardConfig f)) s

/-- SLATE_CONFIG: spec 11 R176. -/
def execSlateConfig (h : Header) (f : SlateFields) (s : State) : Host.Outcome State Fault Refusal :=
  whileRunning (submit h (.slateConfig f)) s

/-- GUARD_SET: spec 11 R172. -/
def execGuardSet (h : Header) (action cut : Byte) (s : State) : Host.Outcome State Fault Refusal :=
  whileRunning (submit h (.guardSet action cut)) s

/-- GUARD_RELEASE: spec 11 R173. -/
def execGuardRelease (h : Header) (s : State) : Host.Outcome State Fault Refusal :=
  whileRunning (submit h .guardRelease) s

/-- QUERY: spec 12 R185. -/
def execQuery (h : Header) (kind : Byte) (index : Half) (s : State) : Host.Outcome State Fault Refusal :=
  whileRunning (submit h (.query kind index)) s

/-- GLYPH_ROWS_COMPLETION: spec 04 R49, spec 02 R26. -/
def execGlyphRowsCompletion (s : State) (among : List Meanwhile := []) : Host.Outcome State Fault Refusal :=
  whileRunning (completeGlyphRows among) s

/-- FONT_CLEAR_COMPLETION: spec 04 R51, spec 02 R26. -/
def execFontClearCompletion (s : State) (among : List Meanwhile := []) : Host.Outcome State Fault Refusal :=
  whileRunning (completeFontClear among) s

/-- DRAW_LINE: spec 10 R157, R160 to R162. -/
def execDrawLine (programme : Option (List Pixel)) (s : State) : Host.Outcome State Fault Refusal :=
  whileRunning (drawLine programme) s

end Sys2Proof.Machine
end

