-- ==== Sys2Proof/Machine/Dispatch.lean ====
section
/-! DEFINITION. The meaning of every command: one arm for each constructor of Instr. -/

namespace Sys2Proof.Machine

open Sys2Proof

def exec (i : Instr) (s : State) : Host.Outcome State Fault Refusal :=
  match i with
  | .powerOnReset => Sys2Proof.Machine.execPowerOnReset s
  | .resetRelease guardFirst order => Sys2Proof.Machine.execResetRelease guardFirst order s
  | .goodFrame frame blanking => Sys2Proof.Machine.execGoodFrame frame blanking s
  | .frameWindowExpiry => Sys2Proof.Machine.execFrameWindowExpiry s
  | .outputFrameStart order => Sys2Proof.Machine.execOutputFrameStart order s
  | .packetArrival p => Sys2Proof.Machine.execPacketArrival p s
  | .damagedEntry e => Sys2Proof.Machine.execDamagedEntry e s
  | .unknownCommand h code payload => Sys2Proof.Machine.execUnknownCommand h code payload s
  | .resetRun h => Sys2Proof.Machine.execResetRun h s
  | .resetAll h => Sys2Proof.Machine.execResetAll h s
  | .deviceConfig h f => Sys2Proof.Machine.execDeviceConfig h f s
  | .paletteWrite h first colours => Sys2Proof.Machine.execPaletteWrite h first colours s
  | .fontDefine h f => Sys2Proof.Machine.execFontDefine h f s
  | .fontClear h font => Sys2Proof.Machine.execFontClear h font s
  | .glyphMetrics h f => Sys2Proof.Machine.execGlyphMetrics h f s
  | .glyphRows h f => Sys2Proof.Machine.execGlyphRows h f s
  | .codeMapWrite h f => Sys2Proof.Machine.execCodeMapWrite h f s
  | .styleWrite h f => Sys2Proof.Machine.execStyleWrite h f s
  | .styleDrop h selector => Sys2Proof.Machine.execStyleDrop h selector s
  | .textWrite h offset codes => Sys2Proof.Machine.execTextWrite h offset codes s
  | .itemWrite h f => Sys2Proof.Machine.execItemWrite h f s
  | .itemDrop h item => Sys2Proof.Machine.execItemDrop h item s
  | .playlistWrite h lane items => Sys2Proof.Machine.execPlaylistWrite h lane items s
  | .playlistAppend h lane items => Sys2Proof.Machine.execPlaylistAppend h lane items s
  | .laneConfig h f => Sys2Proof.Machine.execLaneConfig h f s
  | .laneStart h lane mode start => Sys2Proof.Machine.execLaneStart h lane mode start s
  | .laneStopDrain h lane => Sys2Proof.Machine.execLaneStopDrain h lane s
  | .laneStopCut h lane => Sys2Proof.Machine.execLaneStopCut h lane s
  | .laneSpeed h lane target step => Sys2Proof.Machine.execLaneSpeed h lane target step s
  | .interject h lane items => Sys2Proof.Machine.execInterject h lane items s
  | .interjectCancel h lane => Sys2Proof.Machine.execInterjectCancel h lane s
  | .symbolDefine h f => Sys2Proof.Machine.execSymbolDefine h f s
  | .symbolDrop h symbol => Sys2Proof.Machine.execSymbolDrop h symbol s
  | .quote h f => Sys2Proof.Machine.execQuote h f s
  | .quoteBatch h pairs => Sys2Proof.Machine.execQuoteBatch h pairs s
  | .reference h f => Sys2Proof.Machine.execReference h f s
  | .halt h symbol flag => Sys2Proof.Machine.execHalt h symbol flag s
  | .movementWrite h f => Sys2Proof.Machine.execMovementWrite h f s
  | .keyOn h => Sys2Proof.Machine.execKeyOn h s
  | .keyOff h => Sys2Proof.Machine.execKeyOff h s
  | .guardConfig h f => Sys2Proof.Machine.execGuardConfig h f s
  | .slateConfig h f => Sys2Proof.Machine.execSlateConfig h f s
  | .guardSet h action cut => Sys2Proof.Machine.execGuardSet h action cut s
  | .guardRelease h => Sys2Proof.Machine.execGuardRelease h s
  | .query h kind index => Sys2Proof.Machine.execQuery h kind index s
  | .glyphRowsCompletion among => Sys2Proof.Machine.execGlyphRowsCompletion s among
  | .fontClearCompletion among => Sys2Proof.Machine.execFontClearCompletion s among
  | .drawLine programme => Sys2Proof.Machine.execDrawLine programme s

end Sys2Proof.Machine
end

