-- ==== Sys2Proof/WellFormed.lean ====
section
/-! DEFINITION. Which commands and events can come about at all: what the packet format, the input unit and the rules of
the events guarantee of the operands. `exec` is total and gives the others a meaning too. -/

namespace Sys2Proof

open Sys2Proof.Machine

/-- A packet's level field is 0..3; a packet of another level is damaged (spec 02 R17). -/
def Header.ok (h : Header) : Bool := decide (h.level ≤ 3)

/-- A recognised command of a matched, undamaged packet: the level, and counts in their ranges (spec 02 R17, R21). -/
def Command.ok (h : Header) (c : Command) : Bool := h.ok && Command.consistent c

/-- Components of 10 bits. -/
def Pixel.ok (p : Pixel) : Bool := decide (p.y < 1024 ∧ p.cb < 1024 ∧ p.cr < 1024)

/-- A delayed line of the programme, where there is one. -/
def programmeOk : Option (List Pixel) → Bool
  | none => true
  | some line => line.all Pixel.ok

/-- The operand of an act. -/
def FrameAct.ok : FrameAct → Bool
  | .line programme => programmeOk programme
  | _ => true

/-- No act twice, no snapshot before its lane's stages, and at most one line in drawing (spec 01 R9, spec 07 R114, spec 10
R160). -/
def orderOk (done : List FrameAct) : List FrameAct → Bool
  | [] => true
  | a :: as => mayAct done a && a.ok && orderOk (a :: done) as

/-- A packet as the search of a line hands it over: whole, or cut short by the end of the line (spec 01 R6). -/
def Found.ok (p : Found) : Bool :=
  match packetExtent p.bytes with
  | some n => if p.truncated then decide (p.bytes.length < n) else p.bytes.length == n
  | none => p.truncated

/-- A frame that is good, with no more packets handed over than its carriage lines hold (spec 01 R1, R6). -/
def goodFrameOk (frame : FrameStructure) (blanking : Blanking) : Bool :=
  (judge frame).isSome && decide (blanking.handed ≤ (packetsOfFrame blanking.lines).length)

/-- The operands of what comes about among takings. -/
def Meanwhile.ok : Meanwhile → Bool
  | .taking => true
  | .arrival p => p.ok
  | .goodFrame frame blanking => goodFrameOk frame blanking
  | .frameWindowExpiry => true
  | .outputFrameStart order => orderOk [] order
  | .drawLine programme => programmeOk programme
  | .powerOnReset => true

/-- The check of each command and event. -/
def wellFormed : Instr → Bool
  | .powerOnReset => true
  | .resetRelease _ order => orderOk [] order
  | .goodFrame frame blanking => goodFrameOk frame blanking
  | .frameWindowExpiry => true
  | .outputFrameStart order => orderOk [] order
  | .packetArrival p => p.ok
  | .damagedEntry e => e.damaged && decide (e.payload.length ≤ 240)
  | .unknownCommand h code payload => h.ok && (readerOf code).isNone && decide (payload.length ≤ 240)
  | .resetRun h => Command.ok h (.reset 0)
  | .resetAll h => Command.ok h (.reset 1)
  | .deviceConfig h f => Command.ok h (.deviceConfig f)
  | .paletteWrite h first colours => Command.ok h (.paletteWrite first colours)
  | .fontDefine h f => Command.ok h (.fontDefine f)
  | .fontClear h font => Command.ok h (.fontClear font)
  | .glyphMetrics h f => Command.ok h (.glyphMetrics f)
  | .glyphRows h f => Command.ok h (.glyphRows f)
  | .codeMapWrite h f => Command.ok h (.codeMapWrite f)
  | .styleWrite h f => Command.ok h (.styleWrite f)
  | .styleDrop h selector => Command.ok h (.styleDrop selector)
  | .textWrite h offset codes => Command.ok h (.textWrite offset codes)
  | .itemWrite h f => Command.ok h (.itemWrite f)
  | .itemDrop h item => Command.ok h (.itemDrop item)
  | .playlistWrite h lane items => Command.ok h (.playlistWrite lane items)
  | .playlistAppend h lane items => Command.ok h (.playlistAppend lane items)
  | .laneConfig h f => Command.ok h (.laneConfig f)
  | .laneStart h lane mode start => Command.ok h (.laneStart lane mode start)
  | .laneStopDrain h lane => Command.ok h (.laneStop lane 0)
  | .laneStopCut h lane => Command.ok h (.laneStop lane 1)
  | .laneSpeed h lane target step => Command.ok h (.laneSpeed lane target step)
  | .interject h lane items => Command.ok h (.interject lane items)
  | .interjectCancel h lane => Command.ok h (.interjectCancel lane)
  | .symbolDefine h f => Command.ok h (.symbolDefine f)
  | .symbolDrop h symbol => Command.ok h (.symbolDrop symbol)
  | .quote h f => Command.ok h (.quote f)
  | .quoteBatch h pairs => Command.ok h (.quoteBatch pairs)
  | .reference h f => Command.ok h (.reference f)
  | .halt h symbol flag => Command.ok h (.halt symbol flag)
  | .movementWrite h f => Command.ok h (.movementWrite f)
  | .keyOn h => Command.ok h .keyOn
  | .keyOff h => Command.ok h .keyOff
  | .guardConfig h f => Command.ok h (.guardConfig f)
  | .slateConfig h f => Command.ok h (.slateConfig f)
  | .guardSet h action cut => Command.ok h (.guardSet action cut)
  | .guardRelease h => Command.ok h .guardRelease
  | .query h kind index => Command.ok h (.query kind index)
  | .glyphRowsCompletion among => among.all Meanwhile.ok
  | .fontClearCompletion among => among.all Meanwhile.ok
  | .drawLine programme => programmeOk programme

end Sys2Proof
end

