-- ==== Sys2Proof/Safety.lean ====
section
/-! DEFINITION. What holds of a sound state: the conditions under which a command is taken at once, and the invariants of
the blocks that the rules state. -/

namespace Sys2Proof.Machine

open Sys2Proof

/-! ## When a command is taken at once -/

/-- No power-on reset is applied, the engine is IDLE, nothing waits and the overrun latch is clear: a packet that arrives
now is taken at once (spec 02 R18, R21). -/
abbrev Ready (s : State) : Prop :=
  s.pins.resetLow = false ∧ s.engine.op = none ∧ s.intake.queue = [] ∧ s.intake.latch = false

/-- No power-on reset is applied and an operation is in flight (spec 02 R25). -/
abbrev Busy (s : State) : Prop := s.pins.resetLow = false ∧ s.engine.op.isSome = true

/-- The header and the command of the control packet a row of the table stands for. -/
def packetCommand : Instr → Option (Header × Command)
  | .powerOnReset => none
  | .resetRelease _ _ => none
  | .goodFrame _ _ => none
  | .frameWindowExpiry => none
  | .outputFrameStart _ => none
  | .packetArrival _ => none
  | .damagedEntry _ => none
  | .unknownCommand _ _ _ => none
  | .resetRun h => some (h, .reset 0)
  | .resetAll h => some (h, .reset 1)
  | .deviceConfig h f => some (h, .deviceConfig f)
  | .paletteWrite h first colours => some (h, .paletteWrite first colours)
  | .fontDefine h f => some (h, .fontDefine f)
  | .fontClear h font => some (h, .fontClear font)
  | .glyphMetrics h f => some (h, .glyphMetrics f)
  | .glyphRows h f => some (h, .glyphRows f)
  | .codeMapWrite h f => some (h, .codeMapWrite f)
  | .styleWrite h f => some (h, .styleWrite f)
  | .styleDrop h selector => some (h, .styleDrop selector)
  | .textWrite h offset codes => some (h, .textWrite offset codes)
  | .itemWrite h f => some (h, .itemWrite f)
  | .itemDrop h item => some (h, .itemDrop item)
  | .playlistWrite h lane items => some (h, .playlistWrite lane items)
  | .playlistAppend h lane items => some (h, .playlistAppend lane items)
  | .laneConfig h f => some (h, .laneConfig f)
  | .laneStart h lane mode start => some (h, .laneStart lane mode start)
  | .laneStopDrain h lane => some (h, .laneStop lane 0)
  | .laneStopCut h lane => some (h, .laneStop lane 1)
  | .laneSpeed h lane target step => some (h, .laneSpeed lane target step)
  | .interject h lane items => some (h, .interject lane items)
  | .interjectCancel h lane => some (h, .interjectCancel lane)
  | .symbolDefine h f => some (h, .symbolDefine f)
  | .symbolDrop h symbol => some (h, .symbolDrop symbol)
  | .quote h f => some (h, .quote f)
  | .quoteBatch h pairs => some (h, .quoteBatch pairs)
  | .reference h f => some (h, .reference f)
  | .halt h symbol flag => some (h, .halt symbol flag)
  | .movementWrite h f => some (h, .movementWrite f)
  | .keyOn h => some (h, .keyOn)
  | .keyOff h => some (h, .keyOff)
  | .guardConfig h f => some (h, .guardConfig f)
  | .slateConfig h f => some (h, .slateConfig f)
  | .guardSet h action cut => some (h, .guardSet action cut)
  | .guardRelease h => some (h, .guardRelease)
  | .query h kind index => some (h, .query kind index)
  | .glyphRowsCompletion _ => none
  | .fontClearCompletion _ => none
  | .drawLine _ => none

/-- The source level a command requires whatever object it names, where its row of the table of spec 02 section 2.3
gives one (spec 03 R33). -/
def levelRequired : Command → Option Nat
  | .reset _ | .deviceConfig _ | .fontDefine _ | .fontClear _ | .guardConfig _ | .slateConfig _ => some 0
  | .paletteWrite _ _ | .glyphMetrics _ | .glyphRows _ | .codeMapWrite _ | .symbolDefine _ | .symbolDrop _
  | .movementWrite _ | .keyOn | .keyOff | .guardSet _ _ | .guardRelease => some 1
  | .textWrite _ _ => some 2
  | .styleWrite _ | .styleDrop _ | .itemWrite _ | .itemDrop _ | .playlistWrite _ _ | .playlistAppend _ _
  | .laneConfig _ | .laneStart _ _ _ | .laneStop _ _ | .laneSpeed _ _ _ | .interject _ _ | .interjectCancel _
  | .quote _ | .quoteBatch _ | .reference _ | .halt _ _ | .query _ _ => none

/-- The owned object a command names (spec 03 R34): whether its number lies in its range, and its owner level where it
exists. QUOTE_BATCH is checked pair by pair (R37). -/
def ownedObject (s : State) : Command → Option (Bool × Option Nat)
  | .styleWrite f => style f.selector
  | .styleDrop selector => style selector
  | .itemWrite f => item f.item
  | .itemDrop n => item n
  | .symbolDefine f => symbol f.symbol
  | .symbolDrop n => symbol n
  | .quote f | .reference f => symbol f.symbol
  | .halt n _ => symbol n
  | .playlistWrite m _ | .playlistAppend m _ | .laneStart m _ _ | .laneStop m _ | .laneSpeed m _ _ | .interject m _
  | .interjectCancel m => lane m
  | .laneConfig f => lane f.lane
  | .reset _ | .deviceConfig _ | .paletteWrite _ _ | .fontDefine _ | .fontClear _ | .glyphMetrics _ | .glyphRows _
  | .codeMapWrite _ | .textWrite _ _ | .quoteBatch _ | .movementWrite _ | .keyOn | .keyOff | .guardConfig _
  | .slateConfig _ | .guardSet _ _ | .guardRelease | .query _ _ => none
where
  style (n : Byte) : Option (Bool × Option Nat) :=
    some (decide (1 ≤ n.toNat ∧ n.toNat ≤ 63), (styleAt s n.toNat).map Style.owner)
  item (n : Half) : Option (Bool × Option Nat) :=
    some (decide (n.toNat ≤ 1023), (itemAt s n.toNat).map Item.owner)
  symbol (n : Half) : Option (Bool × Option Nat) :=
    some (decide (n.toNat ≤ 511), (symbolAt s.quote n.toNat).map Symbol.owner)
  lane (m : Byte) : Option (Bool × Option Nat) :=
    some (decide (m.toNat ≤ 3), some (laneOf s m.toNat).owner)

/-- The command needs its object to exist (spec 03 R34 step 3). -/
def needsObject : Command → Bool
  | .styleDrop _ | .itemDrop _ | .symbolDrop _ | .quote _ | .reference _ | .halt _ _ => true
  | _ => false

/-- The owner field a command carries (spec 03 R34 step 5). -/
def requestedOwner : Command → Option Byte
  | .styleWrite f => some f.owner
  | .symbolDefine f => some f.owner
  | .laneConfig f => some f.owner
  | _ => none

/-! ## Which payloads are consistent with a command -/

/-- The payload lengths of the commands without a count: spec 12 section 12.5. -/
def fixedLengths : List (Byte × Nat) :=
  [(0x01, 1), (0x11, 9), (0x12, 1), (0x13, 5), (0x20, 11), (0x21, 1), (0x30, 13), (0x31, 2)] ++
  [(0x40, 13), (0x41, 3), (0x42, 2), (0x43, 5), (0x45, 1), (0x50, 18), (0x51, 2), (0x52, 6), (0x54, 6), (0x55, 3)] ++
  [(0x56, 6), (0x60, 0), (0x61, 0), (0x70, 4), (0x71, 11), (0x72, 2), (0x73, 0), (0x7F, 3)]

/-- The layout of a command that carries a count: the place of the count, the bytes that stand whatever it is, the bytes of
an element, and the range of the count. -/
structure CountedLength where
  place : Nat
  head : Nat
  each : Nat
  least : Nat
  most : Nat
deriving DecidableEq, Repr

/-- The commands that carry a count: spec 12 section 12.5, each with the range of its own chapter. -/
def countedLengths : List (Byte × CountedLength) :=
  [(0x10, ⟨1, 2, 6, 1, 32⟩), (0x14, ⟨4, 5, 32, 1, 7⟩), (0x15, ⟨2, 3, 2, 1, 112⟩), (0x32, ⟨1, 2, 2, 0, 116⟩),
   (0x33, ⟨1, 2, 2, 1, 116⟩), (0x44, ⟨1, 2, 2, 1, 8⟩), (0x53, ⟨0, 1, 6, 1, 20⟩)]

/-- The bytes of the settings a presence set of DEVICE_CONFIG names: spec 12 section 12.5. -/
def settingsLength (p : Byte) : Nat :=
  (p.getLsbD 0).toNat + (p.getLsbD 1).toNat + (p.getLsbD 2).toNat + 2 * (p.getLsbD 3).toNat +
    2 * (p.getLsbD 4).toNat + 2 * (p.getLsbD 5).toNat + (p.getLsbD 6).toNat + (p.getLsbD 7).toNat

/-- Whether a payload is consistent with a command code, none where the code is not recognised (spec 02 R21 steps 2 and
3). -/
def lengthConsistent (code : Byte) (payload : List Byte) : Option Bool :=
  if code = 0x02 then
    some (match payload with
      | p :: rest => rest.length == settingsLength p
      | [] => false)
  else if code = 0x22 then some (decide (3 ≤ payload.length ∧ payload.length ≤ 240))
  else
    match fixedLengths.lookup code with
    | some n => some (payload.length == n)
    | none => (countedLengths.lookup code).map fun c =>
        match payload[c.place]? with
        | some n => decide (c.least ≤ n.toNat ∧ n.toNat ≤ c.most ∧ payload.length = c.head + c.each * n.toNat)
        | none => false

/-! ## What the search of a line finds -/

/-- The marker of a packet of this kind stands at place `i` of a line (spec 12 R187). -/
def MarkedAt (l : Line) (i : Nat) (kind : PacketKind) : Prop :=
  l[i]? = some 0x19A ∧ l[i + 1]? = some (match kind with
    | .control => 0x14C
    | .report => 0x153)

/-- How many control packets of a list satisfy `p`. -/
def controlsOf (p : FoundAt → Bool) (found : List FoundAt) : Nat :=
  found.countP fun q => q.packet.kind == .control && p q

/-- Spec 01 R6, spec 12 R187: each packet found stands at a marker, holds its bytes as far as the line does, and is
truncated where the line does not hold them all; packets do not overlap, nothing follows a truncated one or the fourth
control packet, and no other marker is passed over but those inside a packet found. -/
def SearchesLine (l : Line) (found : List FoundAt) : Prop :=
  (∀ p ∈ found, MarkedAt l p.start p.packet.kind ∧
    let bs : List Byte := (l.drop (p.start + 2)).map fun x => BitVec.ofNat 8 x.toNat
    (∀ n : Byte, bs[4]? = some n → n.toNat + 6 ≤ bs.length →
      p.packet.bytes = bs.take (n.toNat + 6) ∧ p.packet.truncated = false) ∧
    ((∀ n : Byte, bs[4]? = some n → bs.length < n.toNat + 6) → p.packet.bytes = bs ∧ p.packet.truncated = true) ∧
    p.stop = p.start + 2 + p.packet.bytes.length) ∧
  found.Pairwise (fun p q => p.stop ≤ q.start ∧ p.packet.truncated = false) ∧
  (∀ q ∈ found, controlsOf (fun p => decide (p.start < q.start)) found < 4) ∧
  ∀ i kind, MarkedAt l i kind → (∃ p ∈ found, p.start ≤ i ∧ i < p.stop) ∨
    4 ≤ controlsOf (fun p => decide (p.stop ≤ i)) found

/-! ## What the guard unit does on a change -/

/-- A slate configuration passes the checks of spec 11 R177, with this style and these codes. -/
def SlatePasses (s : State) (c : SlateConfig) (x : Style) (codes : List Byte) : Prop :=
  ∃ i offset length, itemAt s c.item = some i ∧ i.body = .text offset length ∧ c.style ≠ 0 ∧
    styleAt s c.style = some x ∧ i.owner ≤ x.owner ∧ offset + length ≤ 32768 ∧
    codes = Memory.readRun s.text offset length

/-- What a resolution of the slate leaves in `t`, from the tables of `s` and the missing-glyph count before it (spec 11
R177, spec 04 R55, R56). -/
def ResolvesSlate (s : State) (slate : Option SlateConfig) (before : Counter) (t : State) : Prop :=
  (∀ c x codes, slate = some c → SlatePasses s c x codes →
    t.guard.slateFault = false ∧
    t.guard.resolved = some {
      style := x
      codes := codes
      width := clampTo 1 16383 (x.padLeft + advanceTotal s.glyphs x.font codes + x.padRight) } ∧
    t.glyphs.missing = before + BitVec.ofNat 32 (codes.countP fun b => (lookup s.glyphs x.font b).isNone)) ∧
  ((∀ c x codes, slate = some c → ¬SlatePasses s c x codes) →
    t.guard.slateFault = true ∧ t.guard.resolved = none ∧ t.glyphs.missing = before)

/-- What the fade-to-zero direction does to the key (spec 10 R166). With a guard fade of 0 frames, where R166 gives no fade
source, the source is left open (log 23). -/
def FadesToZero (s t : State) : Prop :=
  t.keyer = { s.keyer with
    target := .off
    level := if s.guard.guardFade = 0 then 0 else s.keyer.level
    source := t.keyer.source } ∧
  (s.guard.guardFade ≠ 0 → t.keyer.source = .guard ((256 + s.guard.guardFade - 1) / s.guard.guardFade))

/-- The state and action that go with the active cause set of `t` (spec 11 R174), and the table of spec 11 R175 from `s` to
`t`, with the directions of spec 10 R166. The fade source at a cut is left open, as R166 does (log 23). -/
def GuardActs (s t : State) : Prop :=
  (t.guard.state = .normal ↔ t.guard.active = .empty) ∧
  (∀ a, t.guard.state = .guarded a →
    (a = .clear ↔ ∃ k, t.guard.active.has k = true ∧ (causeConfig t.guard k).action = .clear)) ∧
  t.guard = { s.guard with
    state := t.guard.state
    active := t.guard.active
    resolved := t.guard.resolved
    slateFault := t.guard.slateFault } ∧
  t.glyphs = { s.glyphs with missing := t.glyphs.missing } ∧
  (t.guard.state = s.guard.state → t.keyer = s.keyer ∧ t.guard.resolved = s.guard.resolved) ∧
  (s.guard.state = .normal → t.guard.state = .guarded .clear →
    FadesToZero s t ∧ t.guard.resolved = s.guard.resolved) ∧
  (s.guard.state = .guarded .slate → t.guard.state = .guarded .clear →
    FadesToZero s t ∧ t.guard.resolved = none) ∧
  (s.guard.state ≠ .guarded .slate → t.guard.state = .guarded .slate →
    t.keyer = { s.keyer with target := .off, level := 0, source := t.keyer.source } ∧
    ResolvesSlate s s.guard.slate s.glyphs.missing t) ∧
  (s.guard.state ≠ .normal → t.guard.state = .normal →
    t.guard.resolved = none ∧ t.keyer = { s.keyer with
      target := s.keyer.wish
      source := .key
      level := if s.keyer.keyFade = 0 then s.keyer.wish.level else s.keyer.level }) ∧
  (t.guard.state ≠ .guarded .slate ∨ s.guard.state = .guarded .slate →
    t.guard.slateFault = s.guard.slateFault ∧ t.glyphs.missing = s.glyphs.missing)

/-! ## What the drawing of a line moves in a lane (spec 10 R160) -/

/-- No line of the ending frame is in drawing at an output frame start. -/
abbrev drawsNoLine (order : List FrameAct) : Prop := ∀ programme, FrameAct.line programme ∉ order

/-- A placed entry but for its clipped mark. -/
def unmarked (p : Placed) : Placed := { p with entry := { p.entry with clipped := false } }

/-- A lane but for the clipped marks of its list and its clipped counter. -/
def Lane.unmarked (l : Lane) : Lane := { l with screen := l.screen.map Sys2Proof.Machine.unmarked, clipped := 0 }

/-! ## What the placement stage of a lane makes -/

/-- The right edge W × 65536 of the viewport in force (spec 07 R112). -/
def viewportEdge (l : Lane) : Int := ((l.geometry.right - l.geometry.left : Nat) : Int) * 65536

/-- The tail T of a lane's on-screen list (spec 07 R112). -/
def laneTail (l : Lane) : Int :=
  match l.screen.getLast? with
  | none => viewportEdge l
  | some p => p.x + ((p.entry.width : Int) + (l.config.gap : Int)) * 65536

/-- The slot holds an entry that the placement stage places: spec 07 R112. -/
abbrev Placeable (l : Lane) : Prop := l.slot.isSome = true ∧ laneTail l ≤ viewportEdge l ∧ l.screen.length < 16

/-- From a lane, placement and an attempt at a refill by the tables of `s` after each entry placed, until no entry is to be
placed (spec 07 R98, R112); the number counts the codes that the refills find missing (spec 04 R56). -/
inductive Places (s : State) : Lane → Nat → Lane → Prop where
  | ends (l : Lane) (h : ¬Placeable l) : Places s l 0 l
  | places (l r k : Lane) (e : Staged) (n m : Nat) (h : Placeable l) (he : l.slot = some e)
      (hr : refill s { l with
        slot := none
        screen := l.screen ++ [{ entry := e, x := laneTail l, number := l.nextNumber }]
        nextNumber := l.nextNumber + 1 } = (r, n))
      (hk : Places s r m k) : Places s l (n + m) k

/-! ## Invariants of the blocks -/

/-- The counts, formats and candidate that go with each input state (spec 01 R2 to R4). -/
def inputSound (u : InputUnit) : Bool :=
  decide (1 ≤ u.lossFilter ∧ u.lossFilter ≤ 15) &&
    match u.state with
    | .noSignal => u.candidate.isNone && u.goodCount == 0 && u.missCount == 0
    | .acquiring => u.candidate.isSome && u.goodCount == 1 && decide (u.missCount < u.lossFilter)
    | .locked => u.lockedFormat.isSome && u.candidate.isNone && u.goodCount == 0 && u.missCount == 0
    | .holdover => u.lockedFormat.isSome && u.candidate.isNone && u.goodCount == 0 &&
        decide (u.missCount < u.lossFilter)

/-- Output timing is in FOLLOWING exactly while the input unit is LOCKED (spec 01 R7). -/
abbrev ModeFollowsLock (s : State) : Prop := s.timing.mode = .following ↔ s.input.state = .locked

/-- The intake and the engine between steps: at most 16 entries wait, none waits while the engine is IDLE, the latch is
set only while entries wait, and the group address is 0..30 (spec 02 R18 to R21, R27). -/
abbrev IntakeSound (s : State) : Prop :=
  s.intake.queue.length ≤ 16 ∧ (s.engine.op = none → s.intake.queue = []) ∧
    (s.intake.latch = true → s.intake.queue ≠ []) ∧ ∀ g, s.intake.groupAddress = some g → g ≤ 30

/-- The addressed stores are in their canonical form. -/
abbrev StoresSound (s : State) : Prop :=
  Memory.wf s.text ∧ Table.wf none s.styles ∧ Table.wf none s.items ∧ Table.wf none s.quote.symbols ∧
    Table.wf Movement.initial s.quote.movement ∧ Table.wf Colour.black s.palette.written ∧
    Table.wf Colour.black s.palette.displayed ∧ Table.wf (Glyph.blank s.glyphs.fill) s.glyphs.slots ∧
    (∀ m ∈ s.glyphs.maps.toList, Table.wf none m) ∧
    ∀ e ∈ s.glyphs.slots, e.2.rows.Pairwise fun a b => a.1 < b.1

/-- The two limits in frames are those of the limits in seconds at the output format (spec 09 R144). -/
abbrev LimitsMatchFormat (s : State) : Prop :=
  s.quote.staleFrames = framesOf s.timing.format s.quote.staleLimit ∧
    s.quote.feedFrames = framesOf s.timing.format s.quote.feedTimeout

/-- Every defined symbol is stale exactly when the limit in frames is not 0 and its age has reached it (spec 09 R147). -/
abbrev StaleMatchesAge (s : State) : Prop :=
  ∀ e ∈ s.quote.symbols, ∀ x, e.2 = some x → x.stale = staleAt s.quote.staleFrames x.age

/-- A symbol's change and percent change are those of its prices, and its numbers are in range (spec 09 section 9.1,
R139). -/
def symbolSound (x : Symbol) : Bool :=
  x.change == changeOf x.last x.reference && x.percent == percentOf x.change x.reference &&
    decide (x.reference ≤ 99999999) && decide (x.last.getD 0 ≤ 99999999) && decide (x.flash ≤ 120) &&
    decide (x.age ≤ 65535)

/-- Every defined symbol is sound, and no movement entry flashes for more than 120 frames. -/
abbrev SymbolsSound (s : State) : Prop :=
  (∀ e ∈ s.quote.symbols, ∀ x, e.2 = some x → symbolSound x = true) ∧
    ∀ e ∈ s.quote.movement, e.2.flash ≤ 120

/-- A lane between steps: its counts and speeds are in range, and an interjection, a staged entry or STARVED is there
only while it is RUNNING (spec 07 R92, R97, R105, R109, spec 08 R120). -/
def laneSound (l : Lane) : Bool :=
  decide (l.base.length ≤ 128) && decide (l.screen.length ≤ 16) && decide (l.interjections.length ≤ 3) &&
    decide (l.speed ≤ 960 ∧ l.target ≤ 960 ∧ l.step ≤ 960) && decide (l.faults ≤ 65535) &&
    (l.state == .running || (l.interjections.isEmpty && l.slot.isNone && !l.starved)) &&
    !(l.starved && l.slot.isSome) && (l.state != .idle || l.screen.isEmpty)

/-- The list of the active context (spec 08 R120). -/
def activeList (l : Lane) : List Nat :=
  match l.interjections with
  | [] => l.base
  | i :: _ => i.items

/-- Every cursor lies below its list's length, or is 0 for an empty base list, and a staged entry's list position lies
below the length of the active list (spec 06 R82, spec 08 R120). -/
def cursorsSound (l : Lane) : Bool :=
  (l.cursor == 0 || decide (l.cursor < l.base.length)) &&
    l.interjections.all (fun i => decide (i.cursor < i.items.length)) &&
    match l.slot.bind Staged.position with
    | some k => decide (k < (activeList l).length)
    | none => true

/-- Every lane is sound. -/
abbrev LanesSound (s : State) : Prop := s.lanes.forAll (fun l => laneSound l && cursorsSound l) = true

/-- Every lane's increment is that of its current speed at the output format (spec 07 R107). -/
abbrev IncrementsMatch (s : State) : Prop :=
  ∀ l ∈ s.lanes.toList,
    l.increment = (l.speed * 65536 * periodN s.timing.format + periodD s.timing.format / 2) / periodD s.timing.format

/-- The entries of an on-screen list lie from left to right without overlapping (spec 07 R109). -/
abbrev ListInOrder (l : Lane) : Prop :=
  l.screen.Pairwise fun p q => p.x + (p.entry.width : Int) * 65536 ≤ q.x

/-- Every on-screen list is in order. -/
abbrev ListsInOrder (s : State) : Prop := ∀ l ∈ s.lanes.toList, ListInOrder l

/-- The key level is 0..256, and while the guard is GUARDED the key target is 0 (spec 10 R163). -/
abbrev KeySound (s : State) : Prop :=
  s.keyer.level ≤ 256 ∧ (s.guard.state ≠ .normal → s.keyer.target = .off)

/-- The guard state and action are those of the active cause set (spec 11 R174). -/
abbrev GuardFollowsCauses (s : State) : Prop := s.guard.state = guardStateOf s.guard

/-- The slate is shown only while the guard action is SLATE (spec 11 R177, R179). -/
abbrev SlateOnlyWhenSlate (s : State) : Prop := s.guard.resolved ≠ none → s.guard.state = .guarded .slate

/-- At most 8 replies wait (spec 12 R186). -/
abbrev RepliesSound (s : State) : Prop := s.report.replies.length ≤ 8

/-- All the invariants of the blocks. -/
abbrev Sound (s : State) : Prop :=
  inputSound s.input = true ∧ ModeFollowsLock s ∧ IntakeSound s ∧ StoresSound s ∧ LimitsMatchFormat s ∧
    StaleMatchesAge s ∧ SymbolsSound s ∧ LanesSound s ∧ IncrementsMatch s ∧ ListsInOrder s ∧ KeySound s ∧
    GuardFollowsCauses s ∧ SlateOnlyWhenSlate s ∧ RepliesSound s

end Sys2Proof.Machine
end

