-- ==== Sys2Proof/Certificates/Slice0/Obligations.lean ====
section
/-! DEFINITION. What is claimed of the part: one proposition for each statement of OBLIGATIONS.json. -/

open Sys2Proof Sys2Proof.Machine

/-! ## Steps, power-on reset and its release -/

/-- The step at a state with a command at the front of its queue is that command's meaning at the state with the queue's
rest; with an empty queue the part idles (log 1). -/
def Obligations.StepRunsTheFrontCommand : Prop :=
  ∀ (c : Instr) (rest : List Instr) (s : State),
    step { s with pending := c :: rest } = exec c { s with pending := rest } ∧
      step { s with pending := [] } = .next { s with pending := [] }

/-- Spec 01 R13 and spec 02 R31: what a power-on reset leaves, from any state; the slot of a GLYPH_ROWS in flight keeps its
widths and its other rows (spec 04 R49). While the reset pin is low nothing but its release changes anything: that is the
model's choice (log 7). -/
def Obligations.PowerOnResetSetsInitialValues : Prop :=
  (∀ (i : Instr) (s : State), s.pins.resetLow = true → i ≠ .powerOnReset →
    (∀ g order, i ≠ .resetRelease g order) → exec i s = .next s) ∧
  ∀ s : State, ∃ t, exec .powerOnReset s = .next t ∧
    t.input = { state := .noSignal, lockedFormat := none, candidate := none, goodCount := 0, missCount := 0,
                lossFilter := 3 } ∧
    t.timing.mode = .flywheel ∧ t.timing.format = .f1080p5994 ∧ t.timing.counter = 0 ∧ t.timing.frame = none ∧
    t.timing.starts = [] ∧
    t.intake = { queue := [], latch := false, dropped := 0, groupAddress := none } ∧
    t.engine = { op := none, refusals := 0, last := none } ∧
    (∀ f, t.glyphs.fonts.get f = none) ∧ (∀ f c, Table.get none (t.glyphs.maps.get f) c = none) ∧
    (∀ n, (∀ f, s.engine.op ≠ some (.glyphRows f n)) → bitmapOf t.glyphs n ≤ advanceOf t.glyphs n ∧
      advanceOf t.glyphs n ≤ 64 ∧ ∀ row column, coverageOf t.glyphs n row column ≤ 15) ∧
    (∀ f n, s.engine.op = some (.glyphRows f n) → advanceOf t.glyphs n = advanceOf s.glyphs n ∧
      bitmapOf t.glyphs n = bitmapOf s.glyphs n ∧
      ∀ row column, (row < f.first.toNat ∨ f.first.toNat + f.rows.length ≤ row →
          coverageOf t.glyphs n row column = coverageOf s.glyphs n row column) ∧
        (f.first.toNat ≤ row → row < f.first.toNat + f.rows.length → coverageOf t.glyphs n row column ≤ 15)) ∧
    t.glyphs.missing = 0 ∧
    (∀ i, writtenColour t.palette i = (if i = 1 then ⟨940, 512, 512⟩ else ⟨64, 512, 512⟩) ∧
      displayedColour t.palette i = writtenColour t.palette i) ∧
    (∀ n, 0 < n → styleAt t n = none) ∧ (∀ a, Memory.read t.text a = 0) ∧
    (∀ n, itemAt t n = none) ∧ (∀ n, symbolAt t.quote n = none) ∧
    (∀ i, movementAt t.quote i = { colour := 1, arrow := none, flash := 0 }) ∧
    t.quote.feedAge = 0 ∧ t.quote.classFilter = 0 ∧ t.quote.largeThreshold = 300 ∧ t.quote.staleLimit = 0 ∧
    t.quote.staleFrames = 0 ∧ t.quote.feedTimeout = 0 ∧ t.quote.feedFrames = 0 ∧
    (∀ m, (laneOf t m).state = .idle ∧ (laneOf t m).base = [] ∧ (laneOf t m).screen = [] ∧ (laneOf t m).slot = none ∧
      (laneOf t m).speed = 0 ∧ (laneOf t m).owner = 1 ∧
      (laneOf t m).config = { top := 0, height := 48, left := 0, right := 1920, gap := 32, defaultStyle := 0,
                              staleColour := 0 } ∧
      (laneOf t m).pending = none ∧ (laneOf t m).mode = .loop ∧ (laneOf t m).passEnd = false ∧
      (laneOf t m).cursor = 0 ∧ (laneOf t m).interjections = [] ∧ (laneOf t m).starved = false ∧
      (laneOf t m).target = 0 ∧ (laneOf t m).step = 0 ∧ (laneOf t m).increment = 0 ∧ (laneOf t m).faults = 0 ∧
      (laneOf t m).lastFault = none ∧ (laneOf t m).crowded = 0 ∧ (laneOf t m).clipped = 0 ∧
      (laneOf t m).drained = 0) ∧
    t.renderer.frameSet = none ∧ t.keyer.level = 0 ∧ t.keyer.target = .off ∧ t.keyer.wish = .off ∧
    t.keyer.source = .key ∧ t.keyer.keyFade = 15 ∧
    t.guard.state = .normal ∧ t.guard.active = .empty ∧ t.guard.slate = none ∧ t.guard.slateFault = false ∧
    t.guard.inputLoss = { enabled := true, latched := false, action := .clear } ∧
    t.guard.feedLoss = { enabled := false, latched := false, action := .clear } ∧
    t.guard.intakeOverrun = { enabled := false, latched := false, action := .clear } ∧ t.guard.manual = false ∧
    t.guard.resolved = none ∧ t.guard.guardFade = 8 ∧
    t.report = { replies := [], lines := none } ∧ t.pins.straps = s.pins.straps ∧ t.pins.resetLow = true

/-- Spec 01 R13 and spec 11 R181: the release of a power-on reset makes the counter 1 and leaves the guard GUARDED for
INPUT_LOSS with action CLEAR, in whichever order the blocks act. -/
def Obligations.ReleaseStartsGuardedForInputLoss : Prop :=
  ∀ (s : State) (guardFirst : Bool) (order : List FrameAct), ∃ t,
    exec (.resetRelease guardFirst order) (powerOnReset s) = .next t ∧
    t.pins.resetLow = false ∧ t.timing.counter = 1 ∧ t.timing.mode = .flywheel ∧ t.timing.format = .f1080p5994 ∧
    t.timing.frame = some { format := .f1080p5994, following := false, blanking := [] } ∧ t.timing.starts = [] ∧
    t.input.state = .noSignal ∧ t.guard.state = .guarded .clear ∧
    t.guard.active = { inputLoss := true, feedLoss := false, intakeOverrun := false, manual := false } ∧
    t.keyer.level = 0 ∧ t.keyer.target = .off ∧ t.keyer.wish = .off ∧ t.report.lines.isSome = true ∧
    t.intake = .initial ∧ t.engine = .initial ∧ t.styles = [] ∧ t.text = [] ∧ t.items = [] ∧ t.report.replies = [] ∧
    t.quote.symbols = [] ∧ (∀ m, (laneOf t m).state = .idle ∧ (laneOf t m).screen = []) ∧
    t.glyphs = (powerOnReset s).glyphs ∧ t.palette = (powerOnReset s).palette

/-! ## The input unit -/

/-- Spec 01 R1, R2, R5 to R8: each of the eight structures with a complete start sequence is a good frame of its format,
and a frame of no such structure changes nothing; a good frame moves the input unit by the table of R2 and sets the timing
mode; in LOCKED it produces an output frame start in its format, the next one where it has caused the lock; and then the
packets of its carriage lines arrive in order, as many as arrive within the event (log 4). R6, spec 12 R187: which packets a
line holds, and that the first four lines are searched, in order. R10 to R12: what that start will carry in the vertical
blanking. -/
def Obligations.GoodFrameFollowsTheLockTable : Prop :=
  (∀ f : Format, judge (formatStructure f) = some f) ∧
  (∀ (fs : FrameStructure) (blanking : Blanking) (s : State),
    (fs.completeStart = false ∨ ∀ f, matchesFormat fs f = false) → exec (.goodFrame fs blanking) s = .next s) ∧
  (∀ (fs : FrameStructure) (blanking : Blanking) (f : Format) (s : State),
    s.pins.resetLow = false → judge fs = some f →
    let start : FollowedStart := { format := f, blanking := delayedLines (deviceAddress s) 0 blanking.lines }
    ∃ u, exec (.goodFrame fs blanking) s =
        .next (arriveAll ((packetsOfFrame blanking.lines).take blanking.handed) u) ∧
      (s.input.state = .noSignal →
        u.input = { s.input with state := .acquiring, candidate := some f, goodCount := 1, missCount := 0 }) ∧
      (s.input.state = .acquiring → s.input.candidate = some f → s.input.goodCount = 1 →
        u.input = { s.input with state := .locked, lockedFormat := some f, candidate := none, goodCount := 0,
                                 missCount := 0 }) ∧
      (s.input.state = .acquiring → s.input.candidate ≠ some f →
        u.input = { s.input with candidate := some f, goodCount := 1 }) ∧
      (s.input.state = .locked → s.input.lockedFormat = some f → u.input = { s.input with missCount := 0 }) ∧
      (s.input.state = .holdover → s.input.lockedFormat = some f →
        u.input = { s.input with state := .locked, missCount := 0 }) ∧
      (s.input.state = .locked ∨ s.input.state = .holdover → s.input.lockedFormat ≠ some f →
        u.input = { s.input with state := .acquiring, candidate := some f, goodCount := 1 }) ∧
      u.timing.mode = (if u.input.state = .locked then .following else .flywheel) ∧
      u.timing.format = s.timing.format ∧ u.timing.counter = s.timing.counter ∧ u.timing.frame = s.timing.frame ∧
      (u.input.state ≠ .locked → u.timing.starts = s.timing.starts) ∧
      (u.input.state = .locked → s.input.state = .locked → u.timing.starts = s.timing.starts ++ [start]) ∧
      (u.input.state = .locked → s.input.state ≠ .locked → u.timing.starts = [start]) ∧
      u.glyphs = { s.glyphs with missing := u.glyphs.missing } ∧
      u = { s with input := u.input, timing := u.timing, guard := u.guard, keyer := u.keyer, glyphs := u.glyphs }) ∧
  (∀ l : Line, SearchesLine l (packetsOfLine l)) ∧
  (∀ lines : List Line,
    packetsOfFrame lines = (((lines.take 4).map packetsOfLine).flatten).map FoundAt.packet) ∧
  ∀ (address : Nat) (lines : List Line), (delayedLines address 0 lines).length = lines.length ∧
    ∀ (i : Nat) (came : Line), lines[i]? = some came → ∃ out, (delayedLines address 0 lines)[i]? = some out ∧
      (i = 4 ∨ i = 5 → out = []) ∧ (6 ≤ i → out = came.map some) ∧
      (i < 4 → out.length = came.length ∧ ∀ (j : Nat) (x : Sample), came[j]? = some x →
        ((∃ p ∈ packetsOfLine came, ∃ a rest, p.packet.kind = .control ∧ p.packet.bytes = a :: rest ∧
            a.toNat = address ∧ p.start ≤ j ∧ j < p.stop) → out[j]? = some none) ∧
        ((∀ p ∈ packetsOfLine came, ∀ a rest, p.packet.kind = .control → p.packet.bytes = a :: rest →
            a.toNat = address → p.start ≤ j → p.stop ≤ j) → out[j]? = some (some x)))

/-- Spec 01 R3: the expiry of the frame window. -/
def Obligations.WindowExpiryCountsTowardLoss : Prop :=
  ∀ s : State, s.pins.resetLow = false → ∃ t, exec .frameWindowExpiry s = .next t ∧
    (s.input.state = .noSignal → ModeFollowsLock s → t = s) ∧
    (s.input.state = .locked → s.input.missCount + 1 < s.input.lossFilter →
      t.input = { s.input with state := .holdover, missCount := s.input.missCount + 1 }) ∧
    (s.input.state = .holdover ∨ s.input.state = .acquiring → s.input.missCount + 1 < s.input.lossFilter →
      t.input = { s.input with missCount := s.input.missCount + 1 }) ∧
    (s.input.state ≠ .noSignal → s.input.lossFilter ≤ s.input.missCount + 1 →
      t.input = { s.input with state := .noSignal, candidate := none, goodCount := 0, missCount := 0 }) ∧
    (s.input.state ≠ .noSignal → t.timing.mode = .flywheel ∧ t.timing.format = s.timing.format) ∧
    t.glyphs = { s.glyphs with missing := t.glyphs.missing } ∧
    t = { s with input := t.input, timing := t.timing, guard := t.guard, keyer := t.keyer, glyphs := t.glyphs }

/-- Spec 01 R14, spec 11 R170, R171, R174, R175: at the expiry that enters NO_SIGNAL INPUT_LOSS joins where it is enabled
and not in the set, and at the good frame that leaves NO_SIGNAL it leaves where it is AUTO, whatever other causes are in
the set; the guard unit acts on the change, of either action. A disabled cause does not join, a LATCHED one stays, and no
other expiry or good frame moves the guard. With INPUT_LOSS enabled, AUTO and CLEAR, the expiry makes a NORMAL part
GUARDED and sends fade to zero, and the good frame releases a part guarded for that cause alone. -/
def Obligations.InputLossGuardsAndReleases : Prop :=
  (∀ s : State, s.pins.resetLow = false → s.input.state ≠ .noSignal → s.input.lossFilter ≤ s.input.missCount + 1 →
    s.guard.inputLoss = { enabled := true, latched := false, action := .clear } → s.guard.active = .empty →
    s.guard.state = .normal → s.guard.guardFade ≠ 0 →
    ∃ t, exec .frameWindowExpiry s = .next t ∧ t.guard.state = .guarded .clear ∧
      t.guard.active = { CauseSet.empty with inputLoss := true } ∧
      t.keyer = { s.keyer with target := .off, source := .guard ((256 + s.guard.guardFade - 1) / s.guard.guardFade) }) ∧
  (∀ (fs : FrameStructure) (blanking : Blanking) (f : Format) (s : State), s.pins.resetLow = false →
    judge fs = some f → s.input.state = .noSignal → s.guard.inputLoss.latched = false →
    s.guard.active = { CauseSet.empty with inputLoss := true } → s.guard.state = .guarded .clear →
    ∃ u, exec (.goodFrame fs blanking) s =
        .next (arriveAll ((packetsOfFrame blanking.lines).take blanking.handed) u) ∧
      u.guard.state = .normal ∧ u.guard.active = .empty ∧ u.guard.resolved = none ∧
      u.keyer.target = s.keyer.wish ∧ u.keyer.source = .key) ∧
  (∀ s : State, s.pins.resetLow = false → ∃ t, exec .frameWindowExpiry s = .next t ∧
    (s.input.state = .noSignal ∨ s.input.missCount + 1 < s.input.lossFilter →
      t.guard = s.guard ∧ t.keyer = s.keyer ∧ t.glyphs = s.glyphs) ∧
    (s.input.state ≠ .noSignal → s.input.lossFilter ≤ s.input.missCount + 1 →
      t.guard.active = { s.guard.active with
        inputLoss := s.guard.active.inputLoss || s.guard.inputLoss.enabled } ∧
      (t.guard.active = s.guard.active → t.guard = s.guard ∧ t.keyer = s.keyer ∧ t.glyphs = s.glyphs) ∧
      (t.guard.active ≠ s.guard.active → GuardActs s t))) ∧
  ∀ (fs : FrameStructure) (blanking : Blanking) (f : Format) (s : State), s.pins.resetLow = false →
    judge fs = some f → ∃ u, exec (.goodFrame fs blanking) s =
        .next (arriveAll ((packetsOfFrame blanking.lines).take blanking.handed) u) ∧
      (s.input.state ≠ .noSignal → u.guard = s.guard ∧ u.keyer = s.keyer ∧ u.glyphs = s.glyphs) ∧
      (s.input.state = .noSignal →
        u.guard.active = { s.guard.active with
          inputLoss := s.guard.active.inputLoss && s.guard.inputLoss.latched } ∧
        (u.guard.active = s.guard.active → u.guard = s.guard ∧ u.keyer = s.keyer ∧ u.glyphs = s.glyphs) ∧
        (u.guard.active ≠ s.guard.active → GuardActs s u))

/-- Spec 01 R2 to R4, R7: the counts and formats that go with each input state, and the timing mode, are kept by every
step. -/
def Obligations.InputUnitAndModeStaySound : Prop :=
  ∀ s t : State, inputSound s.input = true → ModeFollowsLock s → step s = .next t →
    inputSound t.input = true ∧ ModeFollowsLock t

/-! ## The output frame start -/

/-- Spec 01 R7 to R12, spec 04 R58, spec 10 R154, spec 12 R183: what an output frame start makes, whatever order the
blocks act in. The next followed start is made first, and in FOLLOWING the outgoing frame carries its lines. In
FOLLOWING with none waiting, for which R7 has no provision, that the frame keeps the format, is marked as following and
carries blanking level in its blanking lines is the model's choice (log 30). Spec 12 R184, section 12.5, spec 07 R119:
the status report carries the input unit, the intake and the engine as they stand, each lane after its stages, the guard
before or after its evaluation, and the key before or after what moves it (log 6). Spec 12 R183, R187, R188: how the
report packets stand in the two report lines, the byte at the command code's place open (log 13). -/
def Obligations.FrameStartInAnyOrder : Prop :=
  (∀ (order : List FrameAct) (s : State), s.pins.resetLow = false → ∃ t,
    exec (.outputFrameStart order) s = .next t ∧
    t.timing.counter = s.timing.counter + 1 ∧
    t.timing.format = (match s.timing.starts with
      | [] => s.timing.format
      | next :: _ => next.format) ∧
    t.timing.starts = s.timing.starts.tail ∧
    t.timing.frame = some
      { format := t.timing.format, following := s.timing.mode == .following,
        blanking := match s.timing.mode, s.timing.starts with
          | .following, next :: _ => next.blanking
          | _, _ => [] } ∧
    t.palette.written = s.palette.written ∧ t.palette.displayed = s.palette.written ∧
    t.renderer.frameSet.isSome = true ∧ t.renderer.nextLine = 0 ∧
    t.report.replies = s.report.replies.drop 3 ∧
    (∃ l, t.report.lines = some l ∧ l.count = s.timing.counter + 1 ∧ l.replies = s.report.replies.take 3 ∧
      l.status.length = 72 ∧ ∃ g k, (g = s.guard ∨ g = t.guard) ∧
      (k = s.keyer ∨ k = fadeStep s.keyer ∨ k = (actOnChange s.guard.state t.guard.state s).keyer ∨ k = t.keyer) ∧
      let lane (m : Nat) : List Byte :=
        let z := laneOf t m
        [byte (laneStateCode z.state)] ++ bytes2 z.speed ++
          [byte z.screen.length, if z.slot.isSome then 1 else if z.starved then 2 else 0, byte z.interjections.length,
           byte (match z.interjections with
             | [] => z.cursor
             | i :: _ => i.cursor)] ++
          bytes2 z.faults ++ match z.lastFault with
            | none => [0xFF, 0xFF, 0]
            | some (n, f) => bytes2 n ++ [byte (faultCode f)]
      l.status = bytes2 (s.timing.counter + 1).toNat ++
        [byte (inputStateCode s.input.state), match s.input.lockedFormat with
          | none => 0xFF
          | some f => byte (formatIndex f)] ++
        (match g.state with
          | .normal => [0, 0xFF]
          | .guarded .clear => [1, 0]
          | .guarded .slate => [1, 1]) ++
        [byte (g.active.inputLoss.toNat + 2 * g.active.feedLoss.toNat + 4 * g.active.intakeOverrun.toNat +
            8 * g.active.manual.toNat),
         byte g.slateFault.toNat, match k.target with
          | .on => if k.level < 256 then 1 else 2
          | .off => if 0 < k.level then 3 else 0] ++ bytes2 k.level ++
        lane 0 ++ lane 1 ++ lane 2 ++ lane 3 ++
        [byte s.intake.queue.length, byte s.intake.latch.toNat] ++ bytes2 s.intake.dropped.toNat ++
        [byte s.engine.op.isSome.toNat] ++ bytes2 s.engine.refusals.toNat ++ match s.engine.last with
          | none => [0, 0, 0, 0, 0, 0]
          | some r => [1, r.seq, r.code, byte (reasonCode r.reason)] ++ bytes2 r.frameCount.toNat) ∧
    t.input = s.input ∧ t.intake = s.intake ∧ t.engine = s.engine ∧ t.styles = s.styles ∧ t.text = s.text ∧
    t.items = s.items ∧ t.pins = s.pins ∧ t.pending = s.pending ∧
    t.glyphs = { s.glyphs with missing := t.glyphs.missing } ∧
    (drawsNoLine order → t.renderer.lastLine = s.renderer.lastLine) ∧
    (t.renderer.lastLine = s.renderer.lastLine ∨ ∃ fr programme px, s.timing.frame = some fr ∧
      FrameAct.line programme ∈ order ∧ s.renderer.nextLine < activeLines fr.format ∧
      px.length = activeWidth fr.format ∧ t.renderer.lastLine = some (s.renderer.nextLine, px)) ∧
    t.timing.mode = s.timing.mode ∧ t.keyer.wish = s.keyer.wish ∧ t.keyer.keyFade = s.keyer.keyFade ∧
    t.guard.slate = s.guard.slate ∧ t.guard.manual = s.guard.manual ∧
    (∀ k, causeConfig t.guard k = causeConfig s.guard k)) ∧
  (∀ (s : State) (fr : OutFrame),
    let sample (b : Byte) : Option Sample := some (BitVec.ofNat 10 (256 + b.toNat))
    let packet (bs : List Byte) (kind seq : Byte) (payload : List Byte) : Prop := ∃ code sum,
      let body := [byte (deviceAddress s), kind, code, seq, byte payload.length] ++ payload ++ [sum]
      bs = [0x9A, 0x53] ++ body ∧ (body.map BitVec.toNat).sum % 256 = 0
    (∀ l, s.report.lines = some l →
      (∃ bs, packet bs 0 (byte l.count.toNat) l.status ∧ outgoingBlanking s fr 4 = bs.map sample) ∧
      ∃ packets : List (List Byte), packets.length = l.replies.length ∧
        outgoingBlanking s fr 5 = packets.flatten.map sample ∧
        ∀ (i : Nat) (r : Reply) (bs : List Byte), l.replies[i]? = some r → packets[i]? = some bs →
          packet bs 1 r.seq r.payload) ∧
    (s.report.lines = none → outgoingBlanking s fr 4 = [] ∧ outgoingBlanking s fr 5 = []) ∧
    ∀ i, i ≠ 4 → i ≠ 5 → outgoingBlanking s fr i = fr.blanking.getD i []) ∧
  [.noSignal, .acquiring, .locked, .holdover].map inputStateCode = [0, 1, 2, 3] ∧
  [.idle, .running, .draining].map laneStateCode = [0, 1, 2] ∧
  [.emptyItem, .nullStyle, .styleAbsent, .level, .limit, .noSymbol].map faultCode = [1, 2, 3, 4, 5, 6] ∧
  [.checksum, .unknown, .length, .level, .range, .state, .inUse, .limit, .notDefined, .depth, .replyFull,
    .misaddressed].map reasonCode = [1, 2, 3, 4, 5, 6, 7, 8, 9, 10, 11, 12] ∧
  [.f2160p50, .f2160p5994, .f1080p50, .f1080p5994, .f1080p60, .f720p50, .f720p5994, .f720p60].map formatIndex =
    [0, 1, 2, 3, 4, 5, 6, 7]

/-- Spec 09 R146: the stages of the quote unit, whatever order the blocks act in. -/
def Obligations.FrameStartAgesTheQuoteUnit : Prop :=
  ∀ (order : List FrameAct) (s : State), s.pins.resetLow = false → ∃ t,
    exec (.outputFrameStart order) s = .next t ∧
    t.quote.feedAge = min (s.quote.feedAge + 1) 65535 ∧ t.quote.movement = s.quote.movement ∧
    t.quote.classFilter = s.quote.classFilter ∧ t.quote.largeThreshold = s.quote.largeThreshold ∧
    t.quote.staleLimit = s.quote.staleLimit ∧ t.quote.feedTimeout = s.quote.feedTimeout ∧
    (startFormat s.timing = s.timing.format →
      t.quote.staleFrames = s.quote.staleFrames ∧ t.quote.feedFrames = s.quote.feedFrames) ∧
    (∀ f, startFormat s.timing = f → f ≠ s.timing.format →
      t.quote.staleFrames = (2 * s.quote.staleLimit * periodD f + periodN f) / (2 * periodN f) ∧
      t.quote.feedFrames = (2 * s.quote.feedTimeout * periodD f + periodN f) / (2 * periodN f)) ∧
    ∀ n, symbolAt t.quote n = (symbolAt s.quote n).map fun x =>
      { x with age := min (x.age + 1) 65535, flash := x.flash - 1,
               stale := t.quote.staleFrames != 0 && decide (t.quote.staleFrames ≤ min (x.age + 1) 65535) }

/-- Spec 10 R165: the fade step, at every output frame start at which the feed condition moves no cause. Spec 11 R168, R170,
R171, R174, R175: at every output frame start FEED_LOSS joins where its condition is seen present and it is enabled, leaves
where it is seen absent and it is AUTO, and the guard unit acts on the change: it fades, cuts and resolves the slate (R177),
withdraws it or releases; it sees the condition as it stands before or after the quote unit's stages. -/
def Obligations.FrameStartFadesTheKey : Prop :=
  ∀ (order : List FrameAct) (s : State), s.pins.resetLow = false → ∃ t q,
    exec (.outputFrameStart order) s = .next t ∧ (q = s.quote ∨ q = t.quote) ∧
    t.guard = { s.guard with
      state := t.guard.state, active := t.guard.active, resolved := t.guard.resolved,
      slateFault := t.guard.slateFault } ∧
    t.guard.active = { s.guard.active with
      feedLoss := if q.feedFrames ≠ 0 ∧ q.feedFrames ≤ q.feedAge
        then s.guard.feedLoss.enabled || s.guard.active.feedLoss
        else s.guard.feedLoss.latched && s.guard.active.feedLoss } ∧
    (t.guard.active = s.guard.active → t.guard = s.guard ∧ t.keyer = { s.keyer with level := t.keyer.level } ∧
      (s.keyer.source = .key → s.keyer.keyFade = 0 → t.keyer.level = s.keyer.target.level) ∧
      ∀ stride, (s.keyer.source = .guard stride ∨
          s.keyer.source = .key ∧ s.keyer.keyFade ≠ 0 ∧
            stride = (256 + s.keyer.keyFade - 1) / s.keyer.keyFade) →
        t.keyer.level =
          (if s.keyer.level < s.keyer.target.level then min (s.keyer.level + stride) s.keyer.target.level
           else max (s.keyer.level - stride) s.keyer.target.level)) ∧
    (t.guard.active ≠ s.guard.active → t.guard.state = guardStateOf t.guard) ∧
    (s.guard.state ≠ .guarded .clear → t.guard.state = .guarded .clear → t.keyer.target = .off ∧
      (s.guard.guardFade = 0 → t.keyer.level = 0) ∧
      (s.guard.guardFade ≠ 0 →
        t.keyer.source = .guard ((256 + s.guard.guardFade - 1) / s.guard.guardFade))) ∧
    (s.guard.state ≠ .guarded .slate → t.guard.state = .guarded .slate → t.keyer.target = .off ∧ t.keyer.level = 0 ∧
      ∃ u, ResolvesSlate s s.guard.slate s.glyphs.missing u ∧ t.guard.resolved = u.guard.resolved ∧
        t.guard.slateFault = u.guard.slateFault) ∧
    (s.guard.state = .guarded .slate → t.guard.state ≠ .guarded .slate → t.guard.resolved = none) ∧
    (t.guard.state ≠ .guarded .slate ∨ s.guard.state = .guarded .slate → t.guard.slateFault = s.guard.slateFault) ∧
    (s.guard.state ≠ .normal → t.guard.state = .normal → t.keyer.target = s.keyer.wish ∧ t.keyer.source = .key)

/-- Spec 07 R115: at an output frame start at which the guard is GUARDED throughout, every lane takes its pending
configuration, clamps its geometry, computes its increment, and is otherwise as it was, but for the clipped marks and the
clipped counter where a line of the ending frame is in drawing (spec 10 R160). -/
def Obligations.HeldLanesStand : Prop :=
  ∀ (order : List FrameAct) (s t : State) (m : Nat), s.pins.resetLow = false → s.guard.state ≠ .normal →
    exec (.outputFrameStart order) s = .next t → t.guard.state ≠ .normal → m < 4 →
    let l := laneOf s m
    let f := t.timing.format
    let c := l.pending.getD l.config
    let left := min c.left (activeWidth f - 64)
    let k := { l with
      config := c, pending := none,
      geometry := Geometry.mk (min c.top (activeLines f - c.height)) c.height left
        (clampTo (left + 64) (activeWidth f) c.right),
      increment := (l.speed * 65536 * periodN f + periodD f / 2) / periodD f }
    (laneOf t m).unmarked = k.unmarked ∧ (drawsNoLine order → laneOf t m = k)

/-- Spec 07 R91, R96, R98, R102, R103, R106, R107, R110 to R114: at an output frame start at which the guard is NORMAL
throughout, every lane takes its pending configuration, clamps its geometry at the frame's format, ramps its speed,
computes its increment, moves its entries, removes those that have left from the front, and a DRAINING lane whose list
is empty becomes IDLE. A RUNNING lane places each entry at the tail as it then stands, the entry in the slot first, only
while the tail lies inside the viewport and fewer than 16 entries are on the list, and goes on until one of these or the
slot fails; a full list that turns an entry away is counted. Stages 6 and 7 of a lane as a whole: a RUNNING lane whose
slot is empty attempts a refill, attempts one again after each entry placed, and may so become STARVED or DRAINING; the
refills read the quote unit before or after its stages, and the codes they find missing are counted (spec 04 R56). The
clipped marks and the clipped counter move only where a line of the ending frame is in drawing (spec 10 R160). -/
def Obligations.UnheldLanesRampAndMove : Prop :=
  ∀ (order : List FrameAct) (s t : State), s.pins.resetLow = false → s.guard.state = .normal →
    exec (.outputFrameStart order) s = .next t → t.guard.state = .normal → ∃ missed : Nat → Nat,
    t.glyphs.missing = s.glyphs.missing + BitVec.ofNat 32 (missed 0 + missed 1 + missed 2 + missed 3) ∧
    ∀ m, m < 4 →
    let l := laneOf s m
    let k := laneOf t m
    let f := t.timing.format
    let moved := l.screen.map fun p => { p with x := p.x - (k.increment : Int) }
    let left := moved.dropWhile fun p => decide (p.x + (p.entry.width : Int) * 65536 ≤ 0)
    let edge : Int := ((k.geometry.right - k.geometry.left : Nat) : Int) * 65536
    let tailOf (ps : List Placed) : Int := match ps.getLast? with
      | none => edge
      | some p => p.x + ((p.entry.width : Int) + (k.config.gap : Int)) * 65536
    k.speed = (if l.step = 0 then l.target else if l.speed < l.target then min (l.speed + l.step) l.target
               else max (l.speed - l.step) l.target) ∧
    k.increment = (k.speed * 65536 * periodN f + periodD f / 2) / periodD f ∧
    k.target = l.target ∧ k.step = l.step ∧ k.owner = l.owner ∧ k.base = l.base ∧ k.mode = l.mode ∧
    k.config = l.pending.getD l.config ∧ k.pending = none ∧ (drawsNoLine order → k.clipped = l.clipped) ∧
    (let c := k.config
     let x := min c.left (activeWidth f - 64)
     k.geometry = Geometry.mk (min c.top (activeLines f - c.height)) c.height x
       (clampTo (x + 64) (activeWidth f) c.right)) ∧
    (l.state = .running → (k.screen.take left.length).map unmarked = left.map unmarked ∧
      (drawsNoLine order → k.screen.take left.length = left) ∧
      (∀ i p, left.length ≤ i → k.screen[i]? = some p → p.x = tailOf (k.screen.take i) ∧ p.x ≤ edge ∧ i < 16 ∧
        p.number = l.nextNumber + (i - left.length)) ∧
      (∀ e, l.slot = some e → tailOf left ≤ edge → left.length < 16 → ∃ p, k.screen[left.length]? = some p ∧
        unmarked p = unmarked { entry := e, x := tailOf left, number := l.nextNumber }) ∧
      (k.slot.isSome = true → edge < tailOf k.screen ∨ 16 ≤ k.screen.length) ∧
      k.crowded = l.crowded +
        (if k.slot.isSome = true ∧ tailOf k.screen ≤ edge ∧ 16 ≤ k.screen.length then 1 else 0)) ∧
    (l.state = .draining → k.screen.map unmarked = left.map unmarked ∧ (drawsNoLine order → k.screen = left) ∧
      (left = [] → k.state = .idle ∧ k.cursor = 0 ∧ k.drained = l.drained + 1) ∧
      (left ≠ [] → k.state = .draining ∧ k.drained = l.drained) ∧ k.crowded = l.crowded) ∧
    (l.state = .idle → k.state = .idle ∧ k.crowded = l.crowded) ∧
    let start : Lane := { l with
      config := k.config, pending := none, geometry := k.geometry, speed := k.speed, increment := k.increment
      screen := left }
    let crowd (z : Lane) : Lane := { z with
      crowded := z.crowded + (if z.slot.isSome = true ∧ tailOf z.screen ≤ edge ∧ 16 ≤ z.screen.length then 1 else 0) }
    let drain (z : Lane) : Lane :=
      if z.state = .draining ∧ z.screen = [] then { z with state := .idle, cursor := 0, drained := z.drained + 1 } else z
    let endsAs (z : Lane) : Prop := k.unmarked = z.unmarked ∧ (drawsNoLine order → k = z)
    (l.state = .running → ∃ q n more a z, (q = s.quote ∨ q = t.quote) ∧
      refill { s with quote := q } start = (a, n) ∧ Places { s with quote := q } a more z ∧
      missed m = n + more ∧ endsAs (drain (crowd z))) ∧
    (l.state = .draining ∨ l.state = .idle ∧ l.screen = [] → missed m = 0 ∧ endsAs (drain start))

/-- Spec 07 R108, R116, spec 05 R65, R70, spec 10 R154: the frame set holds for each lane its geometry, the default style
selector with that style's band values, and entry by entry in list order the integer position, the phase, the slot width,
the style, the clipped mark as it stood at the snapshot, and what the entry shows: the codes of its run, the quotation
formatted from the quote unit as it stands before or after its stages, or its code. Spec 09 R149 to R151: the codes of a
quotation and the palette index of each. -/
def Obligations.FrameSetShowsTheLists : Prop :=
  (∀ (order : List FrameAct) (s : State), s.pins.resetLow = false → ∃ t r,
    exec (.outputFrameStart order) s = .next t ∧ t.renderer.frameSet = some r ∧ ∀ m, m < 4 →
      let l := laneOf t m
      let z := r.get m
      z.top = l.geometry.top ∧ z.height = l.geometry.height ∧ z.left = l.geometry.left ∧
      z.width = l.geometry.right - l.geometry.left ∧ z.staleColour = l.config.staleColour ∧
      z.selector = l.config.defaultStyle ∧
      z.band = (if l.config.defaultStyle = 0 then none
        else (styleAt s l.config.defaultStyle).map fun x => (x.bandColour, x.bandOpacity)) ∧
      z.entries.map (fun e => (e.number, e.position, e.phase, e.width, e.style)) =
        l.screen.map (fun p => (p.number, p.x / 65536, (p.x % 65536).toNat / 8192, p.entry.width, p.entry.style)) ∧
      ∃ q, (q = s.quote ∨ q = t.quote) ∧ ∀ (i : Nat) (e : SnapEntry) (p : Placed), z.entries[i]? = some e → l.screen[i]? = some p →
        (e.clipped = true → p.entry.clipped = true) ∧ (drawsNoLine order → e.clipped = p.entry.clipped) ∧
        e.shown = (match p.entry.item.body with
          | .text offset length => .text (Memory.readRun s.text offset length)
          | .quote n fields =>
            .quote ((symbolAt q n).map fun x => formatQuote q x fields p.entry.style l.config.staleColour)
          | .separator code _ => .separator code)) ∧
  (∀ (q : QuoteUnit) (x : Symbol) (fields : FieldSet) (style : Style) (stale : Nat),
    let entry := movementAt q ((if x.inverse then 6 else 0) + classIndex x.displayed)
    let plain := if x.stale = true then stale else entry.colour
    let sign : List Byte := if 0 < x.change then [0x2B] else if x.change < 0 then [0x2D] else []
    let price : List (List Byte × Nat) := match x.last with
      | some l => if fields.price = true then [(formatNumber l x.decimals,
          if x.stale = true then stale else if 0 < x.flash then style.flashColour else entry.colour)] else []
      | none => []
    let arrow : List (List Byte × Nat) := match entry.arrow with
      | some a => if fields.arrow = true ∧ x.stale = false then [([a], entry.colour)] else []
      | none => []
    let change : List (List Byte × Nat) := if fields.change = true ∧ x.last ≠ none then
        [(sign ++ formatNumber x.change.natAbs x.decimals, plain)] else []
    let percent : List (List Byte × Nat) := match x.percent with
      | some p => if fields.percent = true ∧ x.last ≠ none then
          [(sign ++ formatNumber p.natAbs 2 ++ [0x25], plain)] else []
      | none => []
    let parts := (x.text, style.textColour) :: (price ++ arrow ++ change ++ percent)
    formatQuote q x fields style stale = ((parts.zip (parts.tail.map some ++ [none])).flatMap fun (part, next) =>
      part.1.map (fun c => (c, part.2)) ++ match next with
        | some _ => [(0x20, part.2)]
        | none => [])) ∧
  ∀ m k : Nat, ∃ ds : List Nat, (formatNumber m k).map BitVec.toNat = ds.map (fun d => 0x30 + d) ++
      (if k = 0 then [] else 0x2E :: (List.range k).map fun i => 0x30 + m / 10 ^ (k - 1 - i) % 10) ∧
    ds ≠ [] ∧ (∀ d ∈ ds, d < 10) ∧ ds.foldl (fun v d => 10 * v + d) 0 = m / 10 ^ k ∧
    (1 < ds.length → ds.head? ≠ some 0)

/-- Spec 07 R107: the increment is that of the speed and the output format, with the speed in 0..960: every step keeps it,
every output frame start makes it so from any state, and the resets make it 0. -/
def Obligations.IncrementFollowsTheSpeed : Prop :=
  (∀ s t : State, IncrementsMatch s → (∀ l ∈ s.lanes.toList, l.speed ≤ 960 ∧ l.target ≤ 960) → step s = .next t →
    IncrementsMatch t ∧ ∀ l ∈ t.lanes.toList, l.speed ≤ 960 ∧ l.target ≤ 960) ∧
  (∀ (order : List FrameAct) (s : State), s.pins.resetLow = false → ∃ t,
    exec (.outputFrameStart order) s = .next t ∧ IncrementsMatch t) ∧
  (∀ (h : Header) (s : State), Ready s → h.level = 0 → ∃ t u v,
    exec (.resetRun h) s = .next t ∧ exec (.resetAll h) s = .next u ∧ exec .powerOnReset s = .next v ∧
    ∀ m, (laneOf t m).increment = 0 ∧ (laneOf u m).increment = 0 ∧ (laneOf v m).increment = 0) ∧
  (∀ v, v ≤ 960 → ∀ f, incrementOf v f ≤ 1258291) ∧
  [1, 120, 180, 960].map (fun v => (incrementOf v .f1080p50, incrementOf v .f1080p5994, incrementOf v .f1080p60)) =
    [(1311, 1093, 1092), (157286, 131203, 131072), (235930, 196805, 196608), (1258291, 1049625, 1048576)]

/-- Spec 07 R92, R97, R105, R109, R113, spec 06 R82, spec 08 R120: the lanes' counts, states and cursors stay sound, and
the on-screen lists stay in order. -/
def Obligations.LanesStaySound : Prop :=
  ∀ s t : State, LanesSound s → ListsInOrder s → step s = .next t → LanesSound t ∧ ListsInOrder t

/-! ## Drawing -/

/-- Spec 10 R154 to R162, spec 11 R178: DRAW_LINE mixes the next active line, pixel by pixel: over the programme, for each
lane in turn whose band holds the line, the band, the background of each entry and the text of each entry, at the key level,
and last the slate at level 256. The coverage of an entry's columns is its glyphs' coverage, clipped and shifted by the
phase. At key level 0 with no slate shown the programme passes untouched. -/
def Obligations.DrawLineMixesTheNextLine : Prop :=
  (∀ (programme : Option (List Pixel)) (fr : OutFrame) (s : State), s.pins.resetLow = false →
    s.timing.frame = some fr → s.renderer.nextLine < activeLines fr.format → ∃ (t : State) (px : List Pixel),
    exec (.drawLine programme) s = .next t ∧
    t.renderer.nextLine = s.renderer.nextLine + 1 ∧ t.renderer.lastLine = some (s.renderer.nextLine, px) ∧
    px.length = activeWidth fr.format ∧
    (let line := s.renderer.nextLine
     let base (x : Nat) : Pixel := if fr.following then (programme.getD [])[x]?.getD blackPixel else blackPixel
     let mix (k : Nat) (v : Pixel) (index opacity : Nat) : Pixel :=
       let c := displayedColour s.palette index
       let α := opacity * k / 256
       { y := mixValue v.y c.y α, cb := mixValue v.cb c.cb α, cr := mixValue v.cr c.cr α }
     let text (k top height left : Nat) (x : Nat) (v : Pixel) (e : SnapEntry) : Pixel :=
       let j := (x : Int) - (left + e.position)
       if j < 0 then v
       else match (entryRow s.glyphs top height line e)[j.toNat]? with
         | some (c, index) => if 0 < c then mix k v index ((c * 256 + 7) / 15) else v
         | none => v
     let background (z : Snapshot) (x : Nat) (v : Pixel) (e : SnapEntry) : Pixel :=
       let j := (x : Int) - (z.left + e.position)
       if 0 ≤ j ∧ j ≤ e.width then mix s.keyer.level v e.style.bandColour e.style.bandOpacity else v
     let lane (x : Nat) (v : Pixel) (z : Snapshot) : Pixel :=
       if z.top ≤ line ∧ line < z.top + z.height ∧ z.left ≤ x ∧ x < z.left + z.width then
         let v1 := match z.band with
           | some (colour, opacity) => mix s.keyer.level v colour opacity
           | none => v
         z.entries.foldl (text s.keyer.level z.top z.height z.left x) (z.entries.foldl (background z x) v1)
       else v
     let slate (x : Nat) (v : Pixel) : Pixel := match s.guard.resolved, s.guard.slate with
       | some r, some c =>
         let top := min c.top (activeLines fr.format - c.height)
         let left := min c.left (activeWidth fr.format - 64)
         let right := clampTo (left + 64) (activeWidth fr.format) c.right
         let e : SnapEntry := {
           number := 0, position := ((right - left - r.width) / 2 : Nat), phase := 0, width := r.width,
           style := r.style, clipped := false, shown := .text r.codes }
         if top ≤ line ∧ line < top + c.height ∧ left ≤ x ∧ x < right then
           text 256 top c.height left x (mix 256 v r.style.bandColour r.style.bandOpacity) e
         else v
       | _, _ => v
     let lanes (x : Nat) (v : Pixel) : Pixel := match s.renderer.frameSet with
       | some q => q.toList.foldl (lane x) v
       | none => v
     ∀ x, x < activeWidth fr.format → px[x]? = some (slate x (lanes x (base x)))) ∧
    (s.keyer.level = 0 → s.guard.resolved = none → ∀ (x : Nat) (p : Pixel), px[x]? = some p →
      p = if fr.following then (programme.getD [])[x]?.getD blackPixel else blackPixel) ∧
    t.renderer.frameSet.isSome = s.renderer.frameSet.isSome ∧ t = { s with lanes := t.lanes, renderer := t.renderer } ∧
    (∀ m, (laneOf t m).screen.length = (laneOf s m).screen.length ∧
      laneOf t m = { laneOf s m with screen := (laneOf t m).screen, clipped := (laneOf t m).clipped }) ∧
    (s.renderer.frameSet = none → t.lanes = s.lanes) ∧
    ∀ q q', s.renderer.frameSet = some q → t.renderer.frameSet = some q' → ∀ m, m < 4 →
      let z := q.get m
      let l := laneOf s m
      ((z.entries.map SnapEntry.number).Nodup →
        let end_ (e : SnapEntry) : Nat := match e.shown with
          | .text codes => e.style.padLeft + advanceTotal s.glyphs e.style.font codes
          | .quote codes => e.style.padLeft + advanceTotal s.glyphs e.style.font ((codes.getD []).map Prod.fst)
          | .separator c => (e.width - advanceTotal s.glyphs e.style.font [c]) / 2 +
              advanceTotal s.glyphs e.style.font [c]
        let blank (e : SnapEntry) : Nat := match e.shown with
          | .separator _ => 0
          | _ => e.style.padRight
        let counted := z.entries.filter fun e =>
          decide (z.top ≤ s.renderer.nextLine ∧ s.renderer.nextLine < z.top + z.height ∧ e.width < end_ e + blank e) &&
            !e.clipped && !(l.screen.any fun p => p.number == e.number && p.entry.clipped)
        (laneOf t m).clipped = l.clipped + BitVec.ofNat 32 counted.length ∧
        (laneOf t m).screen = l.screen.map (fun p => if p.number ∈ counted.map SnapEntry.number
          then { p with entry := { p.entry with clipped := true } } else p) ∧
        q'.get m = { z with entries := z.entries.map fun e => if e.number ∈ counted.map SnapEntry.number
          then { e with clipped := true } else e })) ∧
  ∀ (g : GlyphStore) (top height line : Nat) (e : SnapEntry) (row : Option Nat),
    let codes : List (Byte × Nat) := match e.shown with
      | .text codes => codes.map fun c => (c, e.style.textColour)
      | .quote codes => codes.getD []
      | .separator c => [(c, e.style.textColour)]
    let start := match e.shown with
      | .separator c => (e.width - advanceTotal g e.style.font [c]) / 2
      | _ => e.style.padLeft
    let clip := match e.shown with
      | .separator _ => e.width
      | _ => e.width - e.style.padRight
    let laid : List (Nat × Nat) := List.replicate start (0, 0) ++ codes.flatMap fun (c, index) =>
      match lookup g e.style.font c with
      | some n => (List.range (advanceOf g n)).map fun j =>
        (match row with
         | some r => if j < bitmapOf g n then coverageOf g n r j else 0
         | none => 0, index)
      | none => []
    let a (j : Nat) : Nat := if j < clip ∧ j < e.width then (laid[j]?.map Prod.fst).getD 0 else 0
    (match g.fonts.get e.style.font with
     | none => row = none
     | some d =>
       let r : Int := (line : Int) - ((top : Int) + ((height : Int) - (d.height : Int)) / 2)
       (0 ≤ r → r < d.height → row = some r.toNat) ∧ (r < 0 ∨ (d.height : Int) ≤ r → row = none)) →
    (entryRow g top height line e).length = e.width + 1 ∧ ∀ j, j ≤ e.width → ∃ index,
      (entryRow g top height line e)[j]? =
        some ((a j * (8 - e.phase) + (if j = 0 then 0 else a (j - 1)) * e.phase + 4) / 8, index) ∧
      ∀ c i, j < e.width → laid[j]? = some (c, i) → index = i

/-- Spec 10 R162: the value of a mix with its rounding, the weight of a layer and the opacity of coverage; a mix lies between
the running value and the colour, leaves the value at weight 0 and takes the colour at weight 256. -/
def Obligations.MixLiesBetween : Prop :=
  (∀ v c α, α ≤ 256 → 256 * mixValue v c α ≤ v * (256 - α) + c * α + 128 ∧
    v * (256 - α) + c * α + 128 < 256 * mixValue v c α + 256) ∧
  (∀ o k, 256 * alphaOf o k ≤ o * k ∧ o * k < 256 * alphaOf o k + 256) ∧
  (∀ c, 15 * textOpacity c ≤ c * 256 + 7 ∧ c * 256 + 7 < 15 * textOpacity c + 15) ∧
  (∀ v c α, α ≤ 256 → min v c ≤ mixValue v c α ∧ mixValue v c α ≤ max v c) ∧
    (∀ v c, mixValue v c 0 = v ∧ mixValue v c 256 = c) ∧
    (∀ o k, o ≤ 256 → k ≤ 256 → alphaOf o k ≤ 256 ∧ alphaOf o 0 = 0 ∧ alphaOf o 256 = o) ∧
    [15, 12, 8, 5, 0].map textOpacity = [256, 205, 137, 85, 0]

/-! ## Intake and command engine -/

/-- Spec 02 R16, R18, R21: a report packet, a packet without an address and one for another address leave no trace; a
matching packet takes its route from its address alone, waits as the newest entry while the engine is BUSY, and is taken
at once while it is IDLE with nothing waiting. Spec 02 R17: what its entry holds, with 0 for a field that was not
delivered, and when it is damaged. -/
def Obligations.PacketsMatchByAddress : Prop :=
  ∀ (p : Found) (s : State), s.pins.resetLow = false →
    (p.kind = .report ∨ p.bytes = [] → exec (.packetArrival p) s = .next s) ∧
    ∀ a rest, p.kind = .control → p.bytes = a :: rest →
      (a.toNat ≠ deviceAddress s → s.intake.groupAddress ≠ some a.toNat → a.toNat ≠ 31 →
        exec (.packetArrival p) s = .next s) ∧
      ∀ r, (a.toNat = deviceAddress s ∧ r = .device ∨
          a.toNat ≠ deviceAddress s ∧ s.intake.groupAddress = some a.toNat ∧ r = .group ∨
          a.toNat ≠ deviceAddress s ∧ s.intake.groupAddress ≠ some a.toNat ∧ a.toNat = 31 ∧ r = .all) →
        (s.engine.op.isSome = true → s.intake.queue.length < 16 → s.intake.latch = false →
          exec (.packetArrival p) s =
            .next { s with intake := { s.intake with queue := s.intake.queue ++ [entryOfPacket r p] } }) ∧
        (Ready s → exec (.packetArrival p) s = .next (takeEntry (entryOfPacket r p) s)) ∧
        let e := entryOfPacket r p
        let size := (p.bytes.getD 4 0).toNat
        e.route = r ∧ e.level = p.bytes.getD 1 0 ∧ e.code = p.bytes.getD 2 0 ∧ e.seq = p.bytes.getD 3 0 ∧
        (∀ i, e.payload[i]? = if i < size ∧ i < 240 then p.bytes[5 + i]? else none) ∧
        (e.damaged = true ↔ (p.bytes.map BitVec.toNat).sum % 256 ≠ 0 ∨ 240 < size ∨ 3 < e.level.toNat ∨
          p.truncated = true)

/-- Spec 02 R19: a matching packet that meets a full queue or a set latch, damaged or not, is dropped and counted. Spec 02
R20, spec 11 R170, R174, R175: at the drop that sets the latch INTAKE_OVERRUN joins the active cause set where it is
enabled, and the guard unit acts on the change. -/
def Obligations.OverrunDropsAndCounts : Prop :=
  ∀ (p : Found) (r : Route) (a : Byte) (rest : List Byte) (s : State), s.pins.resetLow = false →
    p.kind = .control → p.bytes = a :: rest → routeOf s a.toNat = some r →
    16 ≤ s.intake.queue.length ∨ s.intake.latch = true → ∃ t,
    exec (.packetArrival p) s = .next t ∧
    t.intake = { s.intake with dropped := s.intake.dropped + 1, latch := true } ∧ t.engine = s.engine ∧
    t.guard.active = { s.guard.active with intakeOverrun :=
      s.guard.active.intakeOverrun || (!s.intake.latch && s.guard.intakeOverrun.enabled) } ∧
    (t.guard.active = s.guard.active → t.guard = s.guard ∧ t.keyer = s.keyer ∧ t.glyphs = s.glyphs) ∧
    (t.guard.active ≠ s.guard.active → GuardActs s t) ∧
    t = { s with intake := t.intake, guard := t.guard, keyer := t.keyer, glyphs := t.glyphs }

/-- Spec 02 R16 to R21, spec 12 section 12.5: the arrival of the packet of a command, matched and undamaged, is that
command, for every row that stands for a packet. -/
def Obligations.ArrivalOfItsPacketIsTheCommand : Prop :=
  ∀ (i : Instr) (h : Header) (c : Command) (a : Byte) (s : State), packetCommand i = some (h, c) → h.level ≤ 3 →
    Command.consistent c = true → routeOf s a.toNat = some h.route →
    exec (.packetArrival (packetOf a h c)) s = exec i s

/-- Spec 12 section 12.5, spec 02 R21: the payload written for a command is read back as that command, every field at
every value. -/
def Obligations.PayloadReadsBackAsTheCommand : Prop :=
  ∀ c : Command, Command.consistent c = true → readCommand (Command.code c) (Command.payload c) = .command c

/-- Spec 12 section 12.5, spec 02 R21 step 3: a payload that is read as a command is the one payload of that command, and
its counts are in range. -/
def Obligations.PayloadIsDeterminedByTheCommand : Prop :=
  ∀ (code : Byte) (payload : List Byte) (c : Command), readCommand code payload = .command c →
    Command.code c = code ∧ Command.payload c = payload ∧ Command.consistent c = true

/-- Spec 02 R18, R25: every command that arrives while an operation is in flight, with room in the queue and the latch clear,
waits as the newest entry. -/
def Obligations.CommandsWaitWhileBusy : Prop :=
  ∀ (i : Instr) (h : Header) (c : Command) (s : State), packetCommand i = some (h, c) → Busy s →
    s.intake.queue.length < 16 → s.intake.latch = false →
    exec i s = .next { s with intake := { s.intake with queue := s.intake.queue ++ [entryOf h c] } }

/-- Spec 03 R33, spec 02 R22: a command with a fixed level requirement is refused with LEVEL above it, whatever its other
fields, and changes nothing else. Spec 03 R34, R37 to R39: a command that names an owned object is refused, in this order,
with RANGE where the number lies outside its range, with NOT_DEFINED where it needs an object that does not exist, with
LEVEL where the packet's level is above the object's owner level, and with RANGE where it carries an owner field above 3;
and changes nothing else. -/
def Obligations.LevelsAboveTheRequirementAreRefused : Prop :=
  ∀ (i : Instr) (h : Header) (c : Command) (s : State), packetCommand i = some (h, c) →
    Command.consistent c = true → Ready s →
    let refused (r : Reason) : State := { s with engine := { s.engine with
      refusals := s.engine.refusals + 1,
      last := some { seq := h.seq, code := Command.code c, reason := r, frameCount := s.timing.counter } } }
    (∀ n, levelRequired c = some n → n < h.level → exec i s = .next (refused .level)) ∧
    ∀ (inRange : Bool) (owner : Option Nat), (∀ n, levelRequired c = some n → h.level ≤ n) →
      ownedObject s c = some (inRange, owner) →
      (inRange = false → exec i s = .next (refused .range)) ∧
      (inRange = true → owner = none → needsObject c = true → exec i s = .next (refused .notDefined)) ∧
      (∀ o, inRange = true → owner = some o → o < h.level → exec i s = .next (refused .level)) ∧
      ∀ w, requestedOwner c = some w → 3 < w.toNat → inRange = true → (∀ o, owner = some o → h.level ≤ o) →
        exec i s = .next (refused .range)

/-- Spec 02 R21 steps 1 to 3, R22, spec 12 section 12.5: a damaged entry, an unrecognised code, and a payload whose length is
not the fixed or implied one or whose count is out of its range, are refused with CHECKSUM, UNKNOWN and LENGTH, and change
nothing else; every other payload is read as a command. -/
def Obligations.RefusedBeforeTheirOwnChecks : Prop :=
  ∀ s : State, Ready s →
    let refused (seq code : Byte) (r : Reason) : State := { s with engine := { s.engine with
      refusals := s.engine.refusals + 1,
      last := some { seq := seq, code := code, reason := r, frameCount := s.timing.counter } } }
    (∀ e : Entry, exec (.damagedEntry e) s = .next (refused e.seq e.code .checksum)) ∧
    (∀ (h : Header) (code : Byte) (payload : List Byte), readerOf code = none →
      exec (.unknownCommand h code payload) s = .next (refused h.seq code .unknown)) ∧
    (∀ (i : Instr) (h : Header) (c : Command), packetCommand i = some (h, c) → Command.consistent c = false →
      exec i s = .next (refused h.seq (Command.code c) .length)) ∧
    ∀ (p : Found) (a : Byte) (rest : List Byte) (r : Route), p.kind = .control → p.bytes = a :: rest →
      routeOf s a.toNat = some r →
      let e := entryOfPacket r p
      (e.damaged = true → exec (.packetArrival p) s = .next (refused e.seq e.code .checksum)) ∧
      (e.damaged = false → lengthConsistent e.code e.payload = none →
        exec (.packetArrival p) s = .next (refused e.seq e.code .unknown)) ∧
      (e.damaged = false → lengthConsistent e.code e.payload = some false →
        exec (.packetArrival p) s = .next (refused e.seq e.code .length)) ∧
      (lengthConsistent e.code e.payload = some true → ∃ c, readCommand e.code e.payload = .command c)

/-- Spec 04 R49, R51, spec 02 R26: the completions write the rows, or clear the run, and leave the engine IDLE. Spec 02
R20, R21, R26, spec 11 R171, R174: where entries wait, the oldest is taken at the completion, then come the takings and
events of its operand (log 3), and then takings while the engine is IDLE and entries wait; the taking that empties the queue
clears the latch, an AUTO INTAKE_OVERRUN leaves the set, and the guard is recomputed once, at the taking's end. An event
among the takings is what its own row is; a packet that arrives among them with room and the latch clear is appended and
followed by the taking of the oldest. -/
def Obligations.CompletionsWriteTheGlyphs : Prop :=
  (∀ s : State, s.pins.resetLow = false → s.intake.queue = [] → StoresSound s →
    (∀ (f : RowsFields) (slot : Nat), s.engine.op = some (.glyphRows f slot) → ∃ g,
      exec (.glyphRowsCompletion []) s = .next { s with glyphs := g, engine := { s.engine with op := none } } ∧
      (∀ n, advanceOf g n = advanceOf s.glyphs n ∧ bitmapOf g n = bitmapOf s.glyphs n) ∧
      (∀ n row column, coverageOf g n row column =
        if n = slot ∧ f.first.toNat ≤ row ∧ row < f.first.toNat + f.rows.length then
          (rowColumns (f.rows.getD (row - f.first.toNat) [])).getD column 0
        else coverageOf s.glyphs n row column) ∧
      g.fonts = s.glyphs.fonts ∧ g.maps = s.glyphs.maps ∧ g.missing = s.glyphs.missing) ∧
    ∀ font base count : Nat, s.engine.op = some (.fontClear font base count) → ∃ g,
      exec (.fontClearCompletion []) s = .next { s with glyphs := g, engine := { s.engine with op := none } } ∧
      (∀ n, base ≤ n → n < base + count → advanceOf g n = 0 ∧ bitmapOf g n = 0 ∧
        ∀ row column, coverageOf g n row column = 0) ∧
      (∀ n, n < base ∨ base + count ≤ n → glyphAt g n = glyphAt s.glyphs n) ∧
      g.fonts = s.glyphs.fonts ∧ g.maps = s.glyphs.maps ∧ g.missing = s.glyphs.missing) ∧
  (∀ (among : List Meanwhile) (s : State), s.pins.resetLow = false →
    (∀ f slot, s.engine.op = some (.glyphRows f slot) → exec (.glyphRowsCompletion among) s =
      .next (drainQueue (meanwhileAll among (takeOldest
        { s with glyphs := writeRows s.glyphs f slot, engine := { s.engine with op := none } })))) ∧
    ∀ font base count, s.engine.op = some (.fontClear font base count) → exec (.fontClearCompletion among) s =
      .next (drainQueue (meanwhileAll among (takeOldest
        { s with glyphs := clearRun s.glyphs base count, engine := { s.engine with op := none } })))) ∧
  (∀ u, meanwhileAll [] u = u) ∧ (∀ e es u, meanwhileAll (e :: es) u = meanwhileAll es (meanwhile e u)) ∧
  (∀ (e : Meanwhile) (u : State), u.pins.resetLow = true → meanwhile e u = u) ∧
  (∀ u : State, u.pins.resetLow = false →
    meanwhile .taking u = takeOldest u ∧
    (∀ p, exec (.packetArrival p) u = .next (meanwhile (.arrival p) u)) ∧
    (∀ fs blanking, exec (.goodFrame fs blanking) u = .next (meanwhile (.goodFrame fs blanking) u)) ∧
    exec .frameWindowExpiry u = .next (meanwhile .frameWindowExpiry u) ∧
    (∀ order, exec (.outputFrameStart order) u = .next (meanwhile (.outputFrameStart order) u)) ∧
    (∀ programme, exec (.drawLine programme) u = .next (meanwhile (.drawLine programme) u)) ∧
    exec .powerOnReset u = .next (meanwhile .powerOnReset u) ∧
    ∀ (p : Found) (a : Byte) (bytes : List Byte) (r : Route), p.kind = .control → p.bytes = a :: bytes →
      routeOf u a.toNat = some r → u.intake.queue.length < 16 → u.intake.latch = false →
      exec (.packetArrival p) u = .next (takeOldest { u with intake := { u.intake with
        queue := u.intake.queue ++ [entryOfPacket r p] } })) ∧
  (∀ u : State, u.engine.op.isSome = true ∨ u.intake.queue = [] → takeOldest u = u ∧ drainQueue u = u) ∧
  ∀ (u : State) (e : Entry) (rest : List Entry), u.engine.op = none → u.intake.queue = e :: rest →
    let r := { u with intake := { u.intake with queue := rest } }
    let clear := { u with intake := { u.intake with queue := rest, latch := false } }
    let leaves := u.guard.active.intakeOverrun = true ∧ u.guard.intakeOverrun.latched = false
    drainQueue u = drainQueue (takeOldest u) ∧
    (u.intake.latch = false ∨ rest ≠ [] → takeOldest u = takeEntry e r) ∧
    (u.intake.latch = true → rest = [] → ¬leaves → takeOldest u = takeEntry e clear) ∧
    (u.intake.latch = true → rest = [] → leaves → takeOldest u = recompute (takeEntry e
      { clear with guard := { u.guard with active := { u.guard.active with intakeOverrun := false } } }))

/-- Spec 02 R18 to R21, R27, spec 12 R186: between steps at most 16 entries wait, none while the engine is IDLE, the latch
is set only while some wait, the group address is 0..30, and at most 8 replies wait. -/
def Obligations.IntakeStaysSound : Prop :=
  ∀ s t : State, IntakeSound s → RepliesSound s → step s = .next t → IntakeSound t ∧ RepliesSound t

/-! ## DEVICE_CONFIG and RESET -/

/-- Spec 02 R27, R28, spec 01 R4, spec 09 R144, R145: DEVICE_CONFIG stores every setting present, clamped, keeps the
others, and checks a new input loss filter at once; a group address field of 31 to 254 is refused with RANGE and nothing
in the packet is applied. Spec 01 R7, R14, spec 11 R168, R170, R175: where the check enters NO_SIGNAL, INPUT_LOSS joins
where it is enabled and not in the set, and the guard unit acts on the change, with the packet's own guard fade (log 20). -/
def Obligations.DeviceConfigStoresTheSettings : Prop :=
  ∀ (h : Header) (f : DeviceFields) (s : State), Ready s → h.level = 0 →
    (∀ b, f.groupAddress = some b → 31 ≤ b.toNat → b.toNat ≤ 254 →
      exec (.deviceConfig h f) s = .next { s with engine := { s.engine with
        refusals := s.engine.refusals + 1,
        last := some { seq := h.seq, code := 0x02, reason := .range, frameCount := s.timing.counter } } }) ∧
    ((∀ b, f.groupAddress = some b → b.toNat ≤ 30 ∨ b.toNat = 255) → ∃ t, exec (.deviceConfig h f) s = .next t ∧
    t.intake = { s.intake with groupAddress := match f.groupAddress with
      | some b => if b.toNat = 255 then none else some b.toNat
      | none => s.intake.groupAddress } ∧
    t.input = (match f.lossFilter with
      | none => s.input
      | some b =>
        let filter := clampTo 1 15 b.toNat
        if (s.input.state = .holdover ∨ s.input.state = .acquiring) ∧ filter ≤ s.input.missCount then
          { s.input with lossFilter := filter, state := .noSignal, candidate := none, goodCount := 0, missCount := 0 }
        else { s.input with lossFilter := filter }) ∧
    t.quote.classFilter = ((f.classFilter.map fun b => clampTo 0 7 b.toNat).getD s.quote.classFilter) ∧
    t.quote.largeThreshold = ((f.largeThreshold.map fun v => clampTo 1 9999 v.toNat).getD s.quote.largeThreshold) ∧
    t.quote.staleLimit = ((f.staleLimit.map fun v => clampTo 0 600 v.toNat).getD s.quote.staleLimit) ∧
    t.quote.feedTimeout = ((f.feedTimeout.map fun v => clampTo 0 600 v.toNat).getD s.quote.feedTimeout) ∧
    (f.staleLimit ≠ none → t.quote.staleFrames = framesOf s.timing.format t.quote.staleLimit ∧
      ∀ n x, symbolAt t.quote n = some x →
        x.stale = (t.quote.staleFrames != 0 && decide (t.quote.staleFrames ≤ x.age))) ∧
    (f.feedTimeout ≠ none → t.quote.feedFrames = framesOf s.timing.format t.quote.feedTimeout) ∧
    (f.staleLimit = none → t.quote.staleFrames = s.quote.staleFrames) ∧
    (f.feedTimeout = none → t.quote.feedFrames = s.quote.feedFrames) ∧
    (∀ n, symbolAt t.quote n = (symbolAt s.quote n).map fun x => { x with
      stale := if f.staleLimit = none ∧ f.feedTimeout = none then x.stale
        else t.quote.staleFrames != 0 && decide (t.quote.staleFrames ≤ x.age) }) ∧
    t.quote.feedAge = s.quote.feedAge ∧
    t.timing = { s.timing with mode := if t.input.state = .locked then .following else .flywheel } ∧
    t.keyer.keyFade = ((f.keyFade.map fun b => b.toNat).getD s.keyer.keyFade) ∧
    t.guard.guardFade = ((f.guardFade.map fun b => b.toNat).getD s.guard.guardFade) ∧
    t.lanes = s.lanes ∧ t.engine = s.engine ∧ t.report = s.report ∧ t.renderer = s.renderer ∧ t.styles = s.styles ∧
    t.text = s.text ∧ t.items = s.items ∧ t.palette = s.palette ∧ t.quote.movement = s.quote.movement ∧
    (f.lossFilter = none → ModeFollowsLock s →
      t = { s with intake := t.intake, quote := t.quote, keyer := t.keyer, guard := t.guard } ∧
      t.keyer = { s.keyer with keyFade := t.keyer.keyFade } ∧
      t.guard = { s.guard with guardFade := t.guard.guardFade }) ∧
    t = { s with input := t.input, timing := t.timing, intake := t.intake, quote := t.quote, keyer := t.keyer
                 guard := t.guard, glyphs := { s.glyphs with missing := t.glyphs.missing } } ∧
    let u := { s with
      keyer := { s.keyer with keyFade := t.keyer.keyFade }
      guard := { s.guard with guardFade := t.guard.guardFade } }
    (s.input.state = .noSignal ∨ t.input.state ≠ .noSignal →
      t.guard = u.guard ∧ t.keyer = u.keyer ∧ t.glyphs = s.glyphs) ∧
    (s.input.state ≠ .noSignal → t.input.state = .noSignal →
      t.guard.active = { s.guard.active with
        inputLoss := s.guard.active.inputLoss || s.guard.inputLoss.enabled } ∧
      (t.guard.active = s.guard.active → t.guard = u.guard ∧ t.keyer = u.keyer ∧ t.glyphs = s.glyphs) ∧
      (t.guard.active ≠ s.guard.active → GuardActs u t)))

/-- Spec 02 R15: the device address is the straps, or 30 where they give 31; RESET and DEVICE_CONFIG leave it, and it
is apart from the group address. -/
def Obligations.DeviceAddressIsStrapped : Prop :=
  (∀ s : State, deviceAddress s = if s.pins.straps = 31 then 30 else s.pins.straps.toNat) ∧
    (∀ s : State, deviceAddress s ≤ 30) ∧
    (∀ (s : State) (g : Option Nat),
      deviceAddress { s with intake := { s.intake with groupAddress := g } } = deviceAddress s) ∧
    ∀ (h : Header) (f : DeviceFields) (s t : State),
      (exec (.resetRun h) s = .next t ∨ exec (.resetAll h) s = .next t ∨ exec (.deviceConfig h f) s = .next t) →
      deviceAddress t = deviceAddress s

/-- Spec 02 R29, R30, spec 11 R181, spec 04 R56: what both scopes of RESET clear, and what RESET RUN keeps. The
missing-glyph counter and the slate-fault flag are cleared, and where the part is GUARDED again at once with action SLATE
the slate is resolved. The fade source that a cut or a guard fade of 0 frames leaves is the model's choice (log 23). -/
def Obligations.ResetRunKeepsWhatIsLoaded : Prop :=
  ∀ (h : Header) (s : State), Ready s → h.level = 0 → ∃ t, exec (.resetRun h) s = .next t ∧
    t.intake = { queue := [], latch := false, dropped := 0, groupAddress := s.intake.groupAddress } ∧
    t.engine = { op := none, refusals := 0, last := none } ∧ t.report.replies = [] ∧ t.renderer.frameSet = none ∧
    t.keyer.level = 0 ∧ t.keyer.target = .off ∧ t.keyer.wish = .off ∧ t.keyer.keyFade = s.keyer.keyFade ∧
    t.guard.active = { CauseSet.empty with
      inputLoss := s.guard.inputLoss.enabled && s.input.state == .noSignal } ∧
    t.guard.state = (if s.guard.inputLoss.enabled = true ∧ s.input.state = .noSignal
      then .guarded s.guard.inputLoss.action else .normal) ∧
    t.guard.manual = false ∧ t.guard.slate = s.guard.slate ∧ t.guard.inputLoss = s.guard.inputLoss ∧
    t.guard.feedLoss = s.guard.feedLoss ∧ t.guard.intakeOverrun = s.guard.intakeOverrun ∧
    (t.guard.state ≠ .guarded .slate →
      t.guard.slateFault = false ∧ t.guard.resolved = none ∧ t.glyphs.missing = 0) ∧
    (t.guard.state = .guarded .slate → ResolvesSlate s s.guard.slate 0 t) ∧
    t.keyer.source = (if t.guard.state = .guarded .clear ∧ s.guard.guardFade ≠ 0
      then .guard ((256 + s.guard.guardFade - 1) / s.guard.guardFade) else .key) ∧
    t.input = s.input ∧ t.timing = s.timing ∧ t.glyphs.fonts = s.glyphs.fonts ∧ t.glyphs.maps = s.glyphs.maps ∧
    t.glyphs.slots = s.glyphs.slots ∧ t.glyphs.fill = s.glyphs.fill ∧ t.palette = s.palette ∧ t.styles = s.styles ∧
    t.text = s.text ∧ t.items = s.items ∧ t.quote.feedAge = 0 ∧
    t.quote.classFilter = s.quote.classFilter ∧ t.quote.largeThreshold = s.quote.largeThreshold ∧
    t.quote.staleLimit = s.quote.staleLimit ∧ t.quote.staleFrames = s.quote.staleFrames ∧
    t.quote.feedTimeout = s.quote.feedTimeout ∧ t.quote.feedFrames = s.quote.feedFrames ∧
    t.guard.guardFade = s.guard.guardFade ∧ t.quote.movement = s.quote.movement ∧
    (∀ n, symbolAt t.quote n = (symbolAt s.quote n).map fun x => { x with flash := 0, age := 0, stale := false }) ∧
    (∀ m, let l := laneOf s m
      let k := laneOf t m
      k.state = .idle ∧ k.mode = .loop ∧ k.passEnd = false ∧ k.config = l.config ∧ k.pending = l.pending ∧
      k.geometry = l.geometry ∧ k.owner = l.owner ∧ k.base = l.base ∧ k.cursor = 0 ∧ k.slot = none ∧
      k.starved = false ∧ k.screen = [] ∧ k.interjections = [] ∧ k.speed = 0 ∧ k.target = 0 ∧ k.step = 0 ∧
      k.faults = 0 ∧ k.lastFault = none ∧ k.crowded = 0 ∧ k.clipped = 0 ∧ k.drained = 0)

/-- Spec 02 R29, R30, spec 01 R4, spec 04 R46, spec 11 R181: RESET ALL clears what has been loaded as well, sets the
DEVICE_CONFIG settings and the guard's causes to their initial values and checks the input loss filter; the guard then reads
its conditions. -/
def Obligations.ResetAllClearsWhatIsLoaded : Prop :=
  ∀ (h : Header) (s : State), Ready s → h.level = 0 → ∃ t, exec (.resetAll h) s = .next t ∧
    t.intake = { queue := [], latch := false, dropped := 0, groupAddress := none } ∧
    t.engine = { op := none, refusals := 0, last := none } ∧ t.report.replies = [] ∧ t.renderer.frameSet = none ∧
    t.input = (if (s.input.state = .holdover ∨ s.input.state = .acquiring) ∧ 3 ≤ s.input.missCount
      then { s.input with lossFilter := 3, state := .noSignal, candidate := none, goodCount := 0, missCount := 0 }
      else { s.input with lossFilter := 3 }) ∧
    t.timing.format = s.timing.format ∧ t.timing.counter = s.timing.counter ∧ t.timing.frame = s.timing.frame ∧
    t.keyer.level = 0 ∧ t.keyer.target = .off ∧ t.keyer.wish = .off ∧ t.keyer.keyFade = 15 ∧
    t.keyer.source = (if t.input.state = .noSignal then .guard 32 else .key) ∧
    t.guard.guardFade = 8 ∧ t.guard.slate = none ∧ t.guard.slateFault = false ∧ t.guard.resolved = none ∧
    t.guard.manual = false ∧ t.guard.inputLoss = { enabled := true, latched := false, action := .clear } ∧
    t.guard.feedLoss = { enabled := false, latched := false, action := .clear } ∧
    t.guard.intakeOverrun = { enabled := false, latched := false, action := .clear } ∧
    t.guard.active = { CauseSet.empty with inputLoss := t.input.state == .noSignal } ∧
    t.guard.state = (if t.input.state = .noSignal then .guarded .clear else .normal) ∧
    (∀ f, t.glyphs.fonts.get f = none) ∧ (∀ f c, Table.get none (t.glyphs.maps.get f) c = none) ∧
    (∀ n, advanceOf t.glyphs n = 0 ∧ bitmapOf t.glyphs n = 0 ∧ ∀ row column, coverageOf t.glyphs n row column = 0) ∧
    t.glyphs.missing = 0 ∧
    (∀ i, writtenColour t.palette i = (if i = 1 then ⟨940, 512, 512⟩ else ⟨64, 512, 512⟩) ∧
      displayedColour t.palette i = writtenColour t.palette i) ∧
    (∀ n, styleAt t n = none ∧ itemAt t n = none ∧ symbolAt t.quote n = none) ∧
    (∀ a, Memory.read t.text a = 0) ∧ (∀ i, movementAt t.quote i = { colour := 1, arrow := none, flash := 0 }) ∧
    t.quote.classFilter = 0 ∧ t.quote.largeThreshold = 300 ∧ t.quote.staleLimit = 0 ∧ t.quote.staleFrames = 0 ∧
    t.quote.feedTimeout = 0 ∧ t.quote.feedFrames = 0 ∧ t.quote.feedAge = 0 ∧
    (∀ m, (laneOf t m).state = .idle ∧ (laneOf t m).owner = 1 ∧ (laneOf t m).pending = none ∧
      (laneOf t m).base = [] ∧ (laneOf t m).cursor = 0 ∧ (laneOf t m).slot = none ∧ (laneOf t m).screen = [] ∧
      (laneOf t m).interjections = [] ∧ (laneOf t m).speed = 0 ∧ (laneOf t m).target = 0 ∧ (laneOf t m).step = 0 ∧
      (laneOf t m).mode = .loop ∧ (laneOf t m).passEnd = false ∧ (laneOf t m).starved = false ∧
      (laneOf t m).faults = 0 ∧ (laneOf t m).lastFault = none ∧ (laneOf t m).crowded = 0 ∧ (laneOf t m).clipped = 0 ∧
      (laneOf t m).drained = 0 ∧
      (laneOf t m).config = { top := 0, height := 48, left := 0, right := 1920, gap := 32, defaultStyle := 0,
                              staleColour := 0 })

/-! ## Glyph store, palette, styles, text, items -/

/-- Spec 04 R57: PALETTE_WRITE writes its run, each component clamped to 4..1019, in the written table alone. -/
def Obligations.PaletteWriteStoresClampedColours : Prop :=
  ∀ (h : Header) (first : Byte) (colours : List ColourField) (s : State), Ready s → h.level ≤ 1 →
    1 ≤ colours.length → colours.length ≤ 32 → first.toNat + colours.length ≤ 64 →
    Table.wf Colour.black s.palette.written → ∃ p,
    exec (.paletteWrite h first colours) s = .next { s with palette := p } ∧
    p.displayed = s.palette.displayed ∧
    (∀ i c, colours[i]? = some c → writtenColour p (first.toNat + i) =
      ⟨clampTo 4 1019 c.y.toNat, clampTo 4 1019 c.cb.toNat, clampTo 4 1019 c.cr.toNat⟩) ∧
    ∀ j, j < first.toNat ∨ first.toNat + colours.length ≤ j → writtenColour p j = writtenColour s.palette j

/-- Spec 04 R44, R45: FONT_DEFINE replaces the definition, height and baseline clamped, while every lane is IDLE, and is
refused with IN_USE otherwise. -/
def Obligations.FontDefineNeedsIdleLanes : Prop :=
  ∀ (h : Header) (f : FontFields) (s : State), Ready s → h.level = 0 → f.font.toNat ≤ 3 → f.base.toNat ≤ 1023 →
    1 ≤ f.count.toNat → f.base.toNat + f.count.toNat ≤ 1024 →
    (f.defaultGlyph = 0xFFFF ∨ f.defaultGlyph.toNat ≤ 1023) →
    ((∀ l ∈ s.lanes.toList, l.state = .idle) → exec (.fontDefine h f) s =
      .next { s with glyphs := { s.glyphs with fonts := s.glyphs.fonts.set f.font.toNat (some
        { base := f.base.toNat, count := f.count.toNat, height := clampTo 8 64 f.height.toNat,
          baseline := clampTo 0 (clampTo 8 64 f.height.toNat - 1) f.baseline.toNat,
          defaultGlyph := if f.defaultGlyph = 0xFFFF then none else some f.defaultGlyph.toNat }) } }) ∧
    ((∃ l ∈ s.lanes.toList, l.state ≠ .idle) → exec (.fontDefine h f) s =
      .next { s with engine := { s.engine with
        refusals := s.engine.refusals + 1,
        last := some { seq := h.seq, code := 0x11, reason := .inUse, frameCount := s.timing.counter } } })

/-- Spec 02 R24, spec 04 R48, R50: GLYPH_ROWS and FONT_CLEAR that pass their checks make the engine BUSY with their fields
and write nothing yet. -/
def Obligations.GlyphWritesBeginAtTheirTaking : Prop :=
  ∀ (h : Header) (d : FontDef) (s : State), Ready s →
    (∀ f : RowsFields, h.level ≤ 1 → f.font.toNat ≤ 3 → s.glyphs.fonts.get f.font.toNat = some d →
      f.index.toNat < d.count → 1 ≤ f.rows.length → f.rows.length ≤ 7 → (∀ r ∈ f.rows, r.length = 32) →
      f.first.toNat + f.rows.length ≤ 64 →
      exec (.glyphRows h f) s =
        .next { s with engine := { s.engine with op := some (.glyphRows f (d.base + f.index.toNat)) } }) ∧
    ∀ font : Byte, h.level = 0 → font.toNat ≤ 3 → s.glyphs.fonts.get font.toNat = some d →
      (∀ l ∈ s.lanes.toList, l.state = .idle) →
      exec (.fontClear h font) s =
        .next { s with engine := { s.engine with op := some (.fontClear font.toNat d.base d.count) } }

/-- Spec 04 R47: GLYPH_METRICS writes the widths of its slot, the bitmap width at most the advance width, and no
coverage. -/
def Obligations.GlyphMetricsWritesTheWidths : Prop :=
  ∀ (h : Header) (f : MetricsFields) (d : FontDef) (s : State), Ready s → h.level ≤ 1 → f.font.toNat ≤ 3 →
    s.glyphs.fonts.get f.font.toNat = some d → f.index.toNat < d.count →
    Table.wf (Glyph.blank s.glyphs.fill) s.glyphs.slots → ∃ g,
    exec (.glyphMetrics h f) s = .next { s with glyphs := g } ∧
    advanceOf g (d.base + f.index.toNat) = clampTo 0 64 f.advance.toNat ∧
    bitmapOf g (d.base + f.index.toNat) = min (clampTo 0 64 f.bitmap.toNat) (clampTo 0 64 f.advance.toNat) ∧
    (∀ n, n ≠ d.base + f.index.toNat → glyphAt g n = glyphAt s.glyphs n) ∧
    (∀ n row column, coverageOf g n row column = coverageOf s.glyphs n row column) ∧
    g.fonts = s.glyphs.fonts ∧ g.maps = s.glyphs.maps ∧ g.missing = s.glyphs.missing

/-- Spec 04 R53: CODE_MAP_WRITE writes its run of entries in one code map. -/
def Obligations.CodeMapWriteStoresItsRun : Prop :=
  ∀ (h : Header) (f : CodeMapFields) (s : State), Ready s → h.level ≤ 1 → f.font.toNat ≤ 3 →
    1 ≤ f.entries.length → f.entries.length ≤ 112 → f.first.toNat + f.entries.length ≤ 256 →
    (∀ e ∈ f.entries, e = 0xFFFF ∨ e.toNat ≤ 1023) → Table.wf none (s.glyphs.maps.get f.font.toNat) → ∃ map,
    exec (.codeMapWrite h f) s =
      .next { s with glyphs := { s.glyphs with maps := s.glyphs.maps.set f.font.toNat map } } ∧
    (∀ i e, f.entries[i]? = some e →
      Table.get none map (f.first.toNat + i) = if e = 0xFFFF then none else some e.toNat) ∧
    ∀ c, c < f.first.toNat ∨ f.first.toNat + f.entries.length ≤ c →
      Table.get none map c = Table.get none (s.glyphs.maps.get f.font.toNat) c

/-- Spec 05 R61, R62, spec 03 R34, R35: STYLE_WRITE replaces one descriptor, with the larger of the requested owner level
and the packet's level as its owner, and the opacity clamped. -/
def Obligations.StyleWriteReplacesTheDescriptor : Prop :=
  ∀ (h : Header) (f : StyleFields) (s : State), Ready s → 1 ≤ f.selector.toNat → f.selector.toNat ≤ 63 →
    (∀ x, styleAt s f.selector.toNat = some x → h.level ≤ x.owner) → f.owner.toNat ≤ 3 → f.font.toNat ≤ 3 →
    f.textColour.toNat ≤ 63 → f.bandColour.toNat ≤ 63 → f.flashColour.toNat ≤ 63 → Table.wf none s.styles → ∃ t,
    exec (.styleWrite h f) s = .next t ∧
    styleAt t f.selector.toNat = some
      { owner := max f.owner.toNat h.level, font := f.font.toNat, textColour := f.textColour.toNat,
        bandColour := f.bandColour.toNat, bandOpacity := clampTo 0 256 f.bandOpacity.toNat,
        padLeft := f.padLeft.toNat, padRight := f.padRight.toNat, reserve := f.reserve.toNat,
        flashColour := f.flashColour.toNat } ∧
    (∀ n, n ≠ f.selector.toNat → styleAt t n = styleAt s n) ∧ t = { s with styles := t.styles }

/-- Spec 05 R63, spec 06 R80, spec 09 R134: a drop of a present object by a level not above its owner leaves it absent and
every other as it was; a drop of an absent one is refused with NOT_DEFINED. -/
def Obligations.DropsRemoveTheObject : Prop :=
  ∀ (h : Header) (s : State), Ready s → Table.wf none s.styles → Table.wf none s.items →
    Table.wf none s.quote.symbols →
    let refused (code : Byte) : State := { s with engine := { s.engine with
      refusals := s.engine.refusals + 1,
      last := some { seq := h.seq, code := code, reason := .notDefined, frameCount := s.timing.counter } } }
    (∀ n : Byte, 1 ≤ n.toNat → n.toNat ≤ 63 →
      (styleAt s n.toNat = none → exec (.styleDrop h n) s = .next (refused 0x21)) ∧
      ∀ x, styleAt s n.toNat = some x → h.level ≤ x.owner → ∃ t, exec (.styleDrop h n) s = .next t ∧
        (∀ j, styleAt t j = if j = n.toNat then none else styleAt s j) ∧ t = { s with styles := t.styles }) ∧
    (∀ n : Half, n.toNat ≤ 1023 →
      (itemAt s n.toNat = none → exec (.itemDrop h n) s = .next (refused 0x31)) ∧
      ∀ x, itemAt s n.toNat = some x → h.level ≤ x.owner → ∃ t, exec (.itemDrop h n) s = .next t ∧
        (∀ j, itemAt t j = if j = n.toNat then none else itemAt s j) ∧ t = { s with items := t.items }) ∧
    ∀ n : Half, n.toNat ≤ 511 → h.level ≤ 1 →
      (symbolAt s.quote n.toNat = none → exec (.symbolDrop h n) s = .next (refused 0x51)) ∧
      ∀ x, symbolAt s.quote n.toNat = some x → h.level ≤ x.owner → ∃ t, exec (.symbolDrop h n) s = .next t ∧
        (∀ j, symbolAt t.quote j = if j = n.toNat then none else symbolAt s.quote j) ∧
        t = { s with quote := { s.quote with symbols := t.quote.symbols } }

/-- Spec 05 R68, R69: TEXT_WRITE writes its codes from its offset on and no other code; a run beyond the store is refused
with LIMIT. -/
def Obligations.TextWriteStoresItsRun : Prop :=
  ∀ (h : Header) (offset : Half) (codes : List Byte) (s : State), Ready s → h.level ≤ 2 → 1 ≤ codes.length →
    codes.length ≤ 238 → Memory.wf s.text →
    (offset.toNat + codes.length ≤ 32768 → ∃ m, exec (.textWrite h offset codes) s = .next { s with text := m } ∧
      (∀ i c, codes[i]? = some c → Memory.read m (offset.toNat + i) = c) ∧
      ∀ a, a < offset.toNat ∨ offset.toNat + codes.length ≤ a → Memory.read m a = Memory.read s.text a) ∧
    (32768 < offset.toNat + codes.length → exec (.textWrite h offset codes) s =
      .next { s with engine := { s.engine with
        refusals := s.engine.refusals + 1,
        last := some { seq := h.seq, code := 0x22, reason := .limit, frameCount := s.timing.counter } } })

/-- Spec 06 R75, R76, spec 03 R36: ITEM_WRITE replaces one record, of each kind, with the packet's level as its owner. -/
def Obligations.ItemWriteReplacesTheRecord : Prop :=
  ∀ (h : Header) (f : ItemFields) (body : ItemBody) (s : State), Ready s → f.item.toNat ≤ 1023 →
    (∀ x, itemAt s f.item.toNat = some x → h.level ≤ x.owner) → f.selector.toNat ≤ 63 → Table.wf none s.items →
    (f.kind = 1 ∧ f.offset.toNat ≤ 32767 ∧ 1 ≤ f.length.toNat ∧ f.length.toNat ≤ 1024 ∧
        body = .text f.offset.toNat f.length.toNat ∨
      f.kind = 2 ∧ f.symbol.toNat ≤ 511 ∧ f.fieldSet.toNat < 32 ∧ f.fieldSet.getLsbD 0 = true ∧
        body = .quote f.symbol.toNat { price := f.fieldSet.getLsbD 1, arrow := f.fieldSet.getLsbD 2,
                                       change := f.fieldSet.getLsbD 3, percent := f.fieldSet.getLsbD 4 } ∨
      f.kind = 3 ∧ body = .separator f.sepCode (clampTo 1 255 f.sepWidth.toNat)) → ∃ t,
    exec (.itemWrite h f) s = .next t ∧
    itemAt t f.item.toNat = some { owner := h.level, selector := f.selector.toNat, body := body } ∧
    (∀ n, n ≠ f.item.toNat → itemAt t n = itemAt s n) ∧ t = { s with items := t.items }

/-- The addressed stores keep their canonical form at every step. -/
def Obligations.StoresStayCanonical : Prop :=
  ∀ s t : State, StoresSound s → step s = .next t → StoresSound t

/-! ## Lanes -/

/-- Spec 07 R90, R105, spec 03 R38: LANE_CONFIG makes a pending configuration and sets the owner level, which only level 0
may change; LANE_SPEED sets target and step, clamped to 0..960. -/
def Obligations.LaneConfigAndSpeedSetTheLane : Prop :=
  ∀ (h : Header) (s : State), Ready s →
    (∀ f : LaneFields, f.lane.toNat ≤ 3 → h.level ≤ (laneOf s f.lane.toNat).owner → f.owner.toNat ≤ 3 →
      f.defaultStyle.toNat ≤ 63 → f.staleColour.toNat ≤ 63 →
      (f.owner.toNat = (laneOf s f.lane.toNat).owner ∨ h.level = 0 → exec (.laneConfig h f) s =
        .next { s with lanes := s.lanes.set f.lane.toNat { laneOf s f.lane.toNat with
          owner := f.owner.toNat
          pending := some { top := f.top.toNat, height := clampTo 8 128 f.height.toNat, left := f.left.toNat,
                            right := f.right.toNat, gap := clampTo 0 1023 f.gap.toNat,
                            defaultStyle := f.defaultStyle.toNat, staleColour := f.staleColour.toNat } } }) ∧
      (f.owner.toNat ≠ (laneOf s f.lane.toNat).owner → h.level ≠ 0 → exec (.laneConfig h f) s =
        .next { s with engine := { s.engine with
          refusals := s.engine.refusals + 1,
          last := some { seq := h.seq, code := 0x40, reason := .level, frameCount := s.timing.counter } } })) ∧
    ∀ (lane : Byte) (target stride : Half), lane.toNat ≤ 3 → h.level ≤ (laneOf s lane.toNat).owner →
      let k := { laneOf s lane.toNat with target := clampTo 0 960 target.toNat, step := clampTo 0 960 stride.toNat }
      exec (.laneSpeed h lane target stride) s = .next { s with lanes := s.lanes.set lane.toNat k }

/-- Spec 06 R83 to R85, spec 07 R93: PLAYLIST_WRITE and PLAYLIST_APPEND change the base list and LANE_START the lane
state, each followed by an attempt at a refill. -/
def Obligations.PlaylistsAndStartsEndInARefill : Prop :=
  ∀ (h : Header) (lane : Byte) (s : State), Ready s → lane.toNat ≤ 3 → h.level ≤ (laneOf s lane.toNat).owner →
    let l := laneOf s lane.toNat
    (∀ items : List Half, items.length ≤ 116 → (∀ i ∈ items, i.toNat ≤ 1023) →
      exec (.playlistWrite h lane items) s = .next (refillLane lane.toNat { l with
        base := items.map fun i => i.toNat
        cursor := 0
        passEnd := false
        slot := if l.interjections = [] then l.slot.map fun e => { e with position := none } else l.slot } s)) ∧
    (∀ items : List Half, 1 ≤ items.length → items.length ≤ 116 → (∀ i ∈ items, i.toNat ≤ 1023) →
      l.base.length + items.length ≤ 128 →
      exec (.playlistAppend h lane items) s =
        .next (refillLane lane.toNat { l with base := l.base ++ items.map fun i => i.toNat } s)) ∧
    ∀ mode start : Byte, (mode = 0 ∨ mode = 1) → l.state ≠ .running →
      exec (.laneStart h lane mode start) s = .next (refillLane lane.toNat { l with
        state := .running
        mode := if mode = 0 then .loop else .singlePass
        passEnd := false
        starved := false
        cursor := if start.toNat < l.base.length then start.toNat else 0 } s)

/-- Spec 07 R98 to R104, spec 03 R40, spec 08 R125: an attempt at a refill by a RUNNING lane with an empty slot stages the
first entry of the active context from the cursor on that passes its tests, past the entries that fail, each of which counts
a fault. In SINGLE_PASS the last entry of the base list sets the pass end mark, and an attempt with the mark set, or one
that finds nothing from the cursor on, goes to DRAINING; in LOOP the lane is STARVED where all fail. An interjection
context that is exhausted gives way to the one below it, and the entry staged from the last place of one has no list
position (the model's choice, log 18). The last fault is that of the last entry passed over. A lane that is not RUNNING or
whose slot holds an entry makes no attempt. Each test has its own fault, in order. Spec 07 R104, spec 04 R54 to R56: the slot
width of each kind, and the codes that the measurement finds missing, which are counted. -/
def Obligations.RefillStagesTheFirstThatPasses : Prop :=
  let staged (s : State) (l : Lane) (n : Nat) (c : Candidate) (e : Staged) (missed : Nat) : Prop :=
    let codes : List Byte := match c.item.body with
      | .text offset length => Memory.readRun s.text offset length
      | .quote symbol fields => match symbolAt s.quote symbol with
        | some x => (formatQuote s.quote x fields c.style l.config.staleColour).map Prod.fst
        | none => []
      | .separator _ _ => []
    let total := advanceTotal s.glyphs c.style.font codes
    e.item = c.item ∧ e.itemNumber = n ∧ e.style = c.style ∧ e.selector = c.selector ∧ e.clipped = false ∧
    e.width = clampTo 1 16383 (match c.item.body with
      | .text _ _ => c.style.padLeft + total + c.style.padRight
      | .quote _ _ => c.style.padLeft + total + c.style.reserve + c.style.padRight
      | .separator _ width => width) ∧
    1 ≤ e.width ∧ e.width ≤ 16383 ∧ missed = codes.countP fun b => (lookup s.glyphs c.style.font b).isNone
  let fails (s : State) (l : Lane) (ns : List Nat) : Prop := ∀ n ∈ ns, ∃ f, testEntry s l n = .error f
  let passedOver (s : State) (l : Lane) (bad : List Nat) (faults : Nat) (last : Option (Nat × StagingFault)) : Prop :=
    (bad = [] → faults = l.faults ∧ last = l.lastFault) ∧
    (bad ≠ [] → faults = min (l.faults + bad.length) 65535) ∧
    ∀ n f, bad.getLast? = some n → testEntry s l n = .error f → last = some (n, f)
  let drained (l : Lane) : Lane := { l with
    state := .draining, slot := none, starved := false, passEnd := false, interjections := [] }
  (∀ (m : Nat) (l : Lane) (s : State), l.state ≠ .running ∨ l.slot.isSome = true →
    refillLane m l s = { s with lanes := s.lanes.set m l }) ∧
  (∀ (m : Nat) (l k : Lane) (missed : Nat) (s : State), refill s l = (k, missed) → refillLane m l s = { s with
    lanes := s.lanes.set m k
    glyphs := { s.glyphs with missing := s.glyphs.missing + BitVec.ofNat 32 missed } }) ∧
  (∀ (g : GlyphStore) (f : Nat),
    (∀ c, g.fonts.get f = none → lookup g f c = none) ∧
    (∀ (c : Byte) (d : FontDef), g.fonts.get f = some d → lookup g f c =
      (((Table.get none (g.maps.get f) c.toNat).filter (· < d.count)).or
        (d.defaultGlyph.filter (· < d.count))).map (d.base + ·)) ∧
    ∀ codes, advanceTotal g f codes = (codes.map fun c => ((lookup g f c).map (advanceOf g)).getD 0).sum) ∧
  (∀ (s : State) (l : Lane) (bad rest : List Nat) (n : Nat) (c : Candidate), l.state = .running → l.slot = none →
    l.mode = .loop → l.interjections = [] → l.base.drop l.cursor ++ l.base.take l.cursor = bad ++ n :: rest →
    fails s l bad → testEntry s l n = .ok c → ∃ missed e faults last,
    let place := (l.cursor + bad.length) % l.base.length
    refill s l = ({ l with
      slot := some e, starved := false, cursor := (place + 1) % l.base.length, faults := faults, lastFault := last },
      missed) ∧
    staged s l n c e missed ∧ e.position = some place ∧ passedOver s l bad faults last) ∧
  (∀ (s : State) (l : Lane), l.state = .running → l.slot = none → l.mode = .loop → l.interjections = [] →
    l.base ≠ [] → fails s l (l.base.drop l.cursor ++ l.base.take l.cursor) → ∃ faults last,
    refill s l = ({ l with starved := true, faults := faults, lastFault := last }, 0) ∧
    passedOver s l (l.base.drop l.cursor ++ l.base.take l.cursor) faults last) ∧
  (∀ (s : State) (l : Lane), l.state = .running → l.slot = none → l.mode = .loop → l.interjections = [] → l.base = [] →
    refill s l = ({ l with starved := false, cursor := 0 }, 0)) ∧
  (∀ (s : State) (l : Lane) (bad rest : List Nat) (n : Nat) (c : Candidate), l.state = .running → l.slot = none →
    l.mode = .singlePass → l.passEnd = false → l.interjections = [] → l.base.drop l.cursor = bad ++ n :: rest →
    fails s l bad → testEntry s l n = .ok c → ∃ missed e faults last,
    refill s l = ({ l with
      slot := some e, starved := false, cursor := if rest = [] then 0 else l.cursor + bad.length + 1
      passEnd := decide (rest = []), faults := faults, lastFault := last }, missed) ∧
    staged s l n c e missed ∧ e.position = some (l.cursor + bad.length) ∧ passedOver s l bad faults last) ∧
  (∀ (s : State) (l : Lane), l.state = .running → l.slot = none → l.mode = .singlePass → l.passEnd = true →
    refill s l = (drained l, 0)) ∧
  (∀ (s : State) (l : Lane), l.state = .running → l.slot = none → l.mode = .singlePass → l.passEnd = false →
    l.interjections = [] → fails s l (l.base.drop l.cursor) → ∃ faults last,
    refill s l = (drained { l with cursor := 0, faults := faults, lastFault := last }, 0) ∧
    passedOver s l (l.base.drop l.cursor) faults last) ∧
  (∀ (s : State) (l : Lane) (i : Interjection) (below : List Interjection) (bad rest : List Nat) (n : Nat)
    (c : Candidate), l.state = .running → l.slot = none → l.mode = .loop ∨ l.passEnd = false →
    l.interjections = i :: below → i.items.drop i.cursor = bad ++ n :: rest →
    fails s l bad → testEntry s l n = .ok c → ∃ missed e faults last,
    refill s l = ({ l with
      slot := some e, starved := false, faults := faults, lastFault := last
      interjections := if rest = [] then below else { i with cursor := i.cursor + bad.length + 1 } :: below }, missed) ∧
    staged s l n c e missed ∧ e.position = (if rest = [] then none else some (i.cursor + bad.length)) ∧
    passedOver s l bad faults last) ∧
  (∀ (s : State) (l : Lane) (i : Interjection) (below : List Interjection), l.state = .running → l.slot = none →
    l.mode = .loop ∨ l.passEnd = false → l.interjections = i :: below → fails s l (i.items.drop i.cursor) →
    ∃ faults last,
    refill s l = refill s { l with interjections := below, faults := faults, lastFault := last } ∧
    passedOver s l (i.items.drop i.cursor) faults last) ∧
  ∀ (s : State) (l : Lane) (n : Nat),
    (itemAt s n = none → testEntry s l n = .error .emptyItem) ∧
    ∀ i, itemAt s n = some i →
      let selector := if i.selector ≠ 0 then i.selector else l.config.defaultStyle
      (selector = 0 → testEntry s l n = .error .nullStyle) ∧
      (selector ≠ 0 → styleAt s selector = none → testEntry s l n = .error .styleAbsent) ∧
      ∀ x, selector ≠ 0 → styleAt s selector = some x →
        (x.owner < max i.owner l.owner → testEntry s l n = .error .level) ∧
        (max i.owner l.owner ≤ x.owner →
          let passed : Except StagingFault Candidate :=
            .ok { item := i, itemNumber := n, style := x, selector := selector }
          (∀ offset length, i.body = .text offset length →
            testEntry s l n = if 32768 < offset + length then .error .limit else passed) ∧
          (∀ symbol fields, i.body = .quote symbol fields →
            testEntry s l n = if symbolAt s.quote symbol = none then .error .noSymbol else passed) ∧
          ∀ code width, i.body = .separator code width → testEntry s l n = passed)

/-- Spec 07 R94, R95: LANE_STOP DRAIN lets what is on screen leave, LANE_STOP CUT empties the lane at once, and neither
is allowed in IDLE. -/
def Obligations.LaneStopDrainsOrCuts : Prop :=
  ∀ (h : Header) (lane : Byte) (s : State), Ready s → lane.toNat ≤ 3 → h.level ≤ (laneOf s lane.toNat).owner →
    let l := laneOf s lane.toNat
    let refused : State := { s with engine := { s.engine with
      refusals := s.engine.refusals + 1,
      last := some { seq := h.seq, code := 0x42, reason := .state, frameCount := s.timing.counter } } }
    let drained := { l with
      state := .draining, slot := none, starved := false, passEnd := false, interjections := [] }
    let cut := { l with
      state := .idle, screen := [], slot := none, starved := false, passEnd := false, interjections := [],
      cursor := 0, target := l.speed }
    (l.state = .running →
      exec (.laneStopDrain h lane) s = .next { s with lanes := s.lanes.set lane.toNat drained }) ∧
    (l.state = .draining → exec (.laneStopDrain h lane) s = .next { s with lanes := s.lanes.set lane.toNat l }) ∧
    (l.state ≠ .idle →
      exec (.laneStopCut h lane) s = .next { s with lanes := s.lanes.set lane.toNat cut }) ∧
    (l.state = .idle → exec (.laneStopDrain h lane) s = .next refused ∧
      exec (.laneStopCut h lane) s = .next refused)

/-- Spec 08 R122, R123, R128: INTERJECT returns the staged entry to its context, suspends the context and makes a new one
active; INTERJECT_CANCEL discards the staged entry and resumes the context below; each attempts a refill. -/
def Obligations.InterjectionsPushAndPop : Prop :=
  ∀ (h : Header) (lane : Byte) (s : State), Ready s → lane.toNat ≤ 3 → h.level ≤ (laneOf s lane.toNat).owner →
    let l := laneOf s lane.toNat
    let refused (code : Byte) (r : Reason) : State := { s with engine := { s.engine with
      refusals := s.engine.refusals + 1,
      last := some { seq := h.seq, code := code, reason := r, frameCount := s.timing.counter } } }
    (∀ items : List Half, 1 ≤ items.length → items.length ≤ 8 → (∀ i ∈ items, i.toNat ≤ 1023) →
      let c : Interjection := { items := items.map fun i => i.toNat, cursor := 0 }
      (l.state ≠ .running → exec (.interject h lane items) s = .next (refused 0x44 .state)) ∧
      (l.state = .running → 3 ≤ l.interjections.length →
        exec (.interject h lane items) s = .next (refused 0x44 .depth)) ∧
      (l.state = .running → l.interjections.length < 3 → l.slot.bind Staged.position = none →
        exec (.interject h lane items) s =
          .next (refillLane lane.toNat { l with slot := none, interjections := c :: l.interjections } s)) ∧
      (∀ k, l.state = .running → l.interjections = [] → l.slot.bind Staged.position = some k →
        exec (.interject h lane items) s = .next (refillLane lane.toNat
          { l with slot := none, cursor := k, passEnd := false, interjections := [c] } s)) ∧
      ∀ k i below, l.state = .running → l.interjections = i :: below → l.interjections.length < 3 →
        l.slot.bind Staged.position = some k →
        exec (.interject h lane items) s = .next (refillLane lane.toNat
          { l with slot := none, interjections := c :: { i with cursor := k } :: below } s)) ∧
    (l.interjections = [] → exec (.interjectCancel h lane) s = .next (refused 0x45 .state)) ∧
    ∀ i below, l.interjections = i :: below → exec (.interjectCancel h lane) s =
      .next (refillLane lane.toNat { l with slot := none, interjections := below } s)

/-! ## Symbols and quotes -/

/-- Spec 09 R132, R133: SYMBOL_DEFINE makes a new record without a last price. -/
def Obligations.SymbolDefineMakesTheRecord : Prop :=
  ∀ (h : Header) (f : SymbolFields) (s : State), Ready s → h.level ≤ 1 → f.places.length = 8 →
    f.symbol.toNat ≤ 511 → (∀ x, symbolAt s.quote f.symbol.toNat = some x → h.level ≤ x.owner) →
    f.owner.toNat ≤ 3 → 1 ≤ f.textLength.toNat → f.textLength.toNat ≤ 8 → f.inverse.toNat ≤ 1 →
    Table.wf none s.quote.symbols → ∃ t x, exec (.symbolDefine h f) s = .next t ∧
    symbolAt t.quote f.symbol.toNat = some x ∧
    x.owner = max f.owner.toNat h.level ∧ x.text = f.places.take f.textLength.toNat ∧
    x.decimals = clampTo 0 4 f.decimals.toNat ∧ (x.inverse = true ↔ f.inverse = 1) ∧
    x.reference = clampTo 0 99999999 f.reference.toNat ∧ x.last = none ∧ x.change = 0 ∧
    (x.percent = none ↔ x.reference = 0) ∧ (∀ p, x.percent = some p → p = 0) ∧
    x.computed = .flat ∧ x.displayed = .flat ∧ x.candidate = none ∧ x.agree = 0 ∧ x.halted = false ∧ x.flash = 0 ∧
    x.age = 0 ∧ x.stale = false ∧
    (∀ n, n ≠ f.symbol.toNat → symbolAt t.quote n = symbolAt s.quote n) ∧
    t = { s with quote := { s.quote with symbols := t.quote.symbols } }

/-- Spec 09 R135, R139 to R142, R148: QUOTE applies the clamped price, computes change, percent change and class, passes
the class through the filter, starts a flash on a change of price, and renews the age and the feed age. -/
def Obligations.QuoteAppliesThePrice : Prop :=
  ∀ (h : Header) (f : PriceFields) (x : Symbol) (s : State), Ready s → f.symbol.toNat ≤ 511 →
    symbolAt s.quote f.symbol.toNat = some x → h.level ≤ x.owner → Table.wf none s.quote.symbols →
    let price := min f.price.toNat 99999999
    let magnitude := min ((((price : Int) - x.reference).natAbs * 20000 + x.reference) / (2 * x.reference)) 99999
    ∃ t y, exec (.quote h f) s = .next t ∧ symbolAt t.quote f.symbol.toNat = some y ∧
    y.last = some price ∧ y.change = (price : Int) - x.reference ∧
    (x.reference = 0 → y.percent = none) ∧
    (x.reference ≠ 0 → y.percent = some (if price < x.reference then -(magnitude : Int) else magnitude)) ∧
    (x.halted = true → y.computed = .halted) ∧
    (x.halted = false → price = x.reference → y.computed = .flat) ∧
    (x.halted = false → x.reference < price →
      y.computed = if x.reference ≠ 0 ∧ s.quote.largeThreshold ≤ magnitude then .upLarge else .upSmall) ∧
    (x.halted = false → price < x.reference →
      y.computed = if s.quote.largeThreshold ≤ magnitude then .downLarge else .downSmall) ∧
    (s.quote.classFilter ≤ 1 → y.displayed = y.computed ∧ y.candidate = none ∧ y.agree = 0) ∧
    (2 ≤ s.quote.classFilter → y.computed = x.displayed →
      y.displayed = x.displayed ∧ y.candidate = none ∧ y.agree = 0) ∧
    (2 ≤ s.quote.classFilter → y.computed ≠ x.displayed → x.candidate = some y.computed →
      (s.quote.classFilter ≤ x.agree + 1 → y.displayed = y.computed ∧ y.candidate = none ∧ y.agree = 0) ∧
      (x.agree + 1 < s.quote.classFilter →
        y.displayed = x.displayed ∧ y.candidate = x.candidate ∧ y.agree = x.agree + 1)) ∧
    (2 ≤ s.quote.classFilter → y.computed ≠ x.displayed → x.candidate ≠ some y.computed →
      y.displayed = x.displayed ∧ y.candidate = some y.computed ∧ y.agree = 1) ∧
    (x.last = none ∨ x.last = some price → y.flash = x.flash) ∧
    (∀ l, x.last = some l → l ≠ price → y.flash =
      (movementAt s.quote ((if x.inverse then 6 else 0) + classIndex y.displayed)).flash) ∧
    y.age = 0 ∧ y.stale = false ∧ y.reference = x.reference ∧ y.owner = x.owner ∧ y.text = x.text ∧
    y.decimals = x.decimals ∧ y.inverse = x.inverse ∧ y.halted = x.halted ∧
    (∀ n, n ≠ f.symbol.toNat → symbolAt t.quote n = symbolAt s.quote n) ∧
    t = { s with quote := { s.quote with symbols := t.quote.symbols, feedAge := 0 } }

/-- Spec 09 R136: QUOTE_BATCH deals with its pairs one after another, each as the QUOTE of that pair, a failing pair being
a refusal of its own under QUOTE_BATCH's code. -/
def Obligations.QuoteBatchIsItsQuotesInOrder : Prop :=
  ∀ (h : Header) (f : PriceFields) (s : State), Ready s →
    (∀ x, f.symbol.toNat ≤ 511 → symbolAt s.quote f.symbol.toNat = some x → h.level ≤ x.owner →
      ∃ t, exec (.quoteBatch h [f]) s = .next t ∧ exec (.quote h f) s = .next t) ∧
    (∀ r, (511 < f.symbol.toNat ∧ r = .range ∨
        f.symbol.toNat ≤ 511 ∧ symbolAt s.quote f.symbol.toNat = none ∧ r = .notDefined ∨
        (∃ x, f.symbol.toNat ≤ 511 ∧ symbolAt s.quote f.symbol.toNat = some x ∧ x.owner < h.level) ∧ r = .level) →
      exec (.quoteBatch h [f]) s = .next { s with engine := { s.engine with
        refusals := s.engine.refusals + 1,
        last := some { seq := h.seq, code := 0x53, reason := r, frameCount := s.timing.counter } } }) ∧
    ∀ (rest : List PriceFields) (t : State), 1 ≤ rest.length → rest.length ≤ 19 →
      exec (.quoteBatch h [f]) s = .next t → exec (.quoteBatch h (f :: rest)) s = exec (.quoteBatch h rest) t

/-- Spec 09 R137 to R141: REFERENCE sets the reference price and computes change, percent change and class again, the class
through the filter, renewing nothing; HALT sets the flag and shows the computed class at once. -/
def Obligations.ReferenceAndHaltRecompute : Prop :=
  ∀ (h : Header) (n : Half) (x : Symbol) (s : State), Ready s → n.toNat ≤ 511 →
    symbolAt s.quote n.toNat = some x → h.level ≤ x.owner → Table.wf none s.quote.symbols →
    let derived (y : Symbol) : Prop :=
      let magnitude := min ((y.change.natAbs * 20000 + y.reference) / (2 * y.reference)) 99999
      y.change = (match y.last with
        | some l => (l : Int) - y.reference
        | none => 0) ∧
      (y.reference = 0 → y.percent = none) ∧
      (y.reference ≠ 0 → y.percent = some (if y.change < 0 then -(magnitude : Int) else magnitude)) ∧
      (y.halted = true → y.computed = .halted) ∧
      (y.halted = false → y.change = 0 → y.computed = .flat) ∧
      (y.halted = false → 0 < y.change →
        y.computed = if y.reference ≠ 0 ∧ s.quote.largeThreshold ≤ magnitude then .upLarge else .upSmall) ∧
      (y.halted = false → y.change < 0 →
        y.computed = if y.reference ≠ 0 ∧ s.quote.largeThreshold ≤ magnitude then .downLarge else .downSmall)
    let kept (y : Symbol) : Prop :=
      y.owner = x.owner ∧ y.text = x.text ∧ y.decimals = x.decimals ∧ y.inverse = x.inverse ∧ y.last = x.last ∧
      y.flash = x.flash ∧ y.age = x.age ∧ y.stale = x.stale
    (∀ price : Quad32, ∃ t y, exec (.reference h { symbol := n, price := price }) s = .next t ∧
      symbolAt t.quote n.toNat = some y ∧ y.reference = min price.toNat 99999999 ∧ y.halted = x.halted ∧
      derived y ∧ kept y ∧
      (s.quote.classFilter ≤ 1 → y.displayed = y.computed ∧ y.candidate = none ∧ y.agree = 0) ∧
      (2 ≤ s.quote.classFilter → y.computed = x.displayed →
        y.displayed = x.displayed ∧ y.candidate = none ∧ y.agree = 0) ∧
      (2 ≤ s.quote.classFilter → y.computed ≠ x.displayed → x.candidate = some y.computed →
        (s.quote.classFilter ≤ x.agree + 1 → y.displayed = y.computed ∧ y.candidate = none ∧ y.agree = 0) ∧
        (x.agree + 1 < s.quote.classFilter →
          y.displayed = x.displayed ∧ y.candidate = x.candidate ∧ y.agree = x.agree + 1)) ∧
      (2 ≤ s.quote.classFilter → y.computed ≠ x.displayed → x.candidate ≠ some y.computed →
        y.displayed = x.displayed ∧ y.candidate = some y.computed ∧ y.agree = 1) ∧
      (∀ j, j ≠ n.toNat → symbolAt t.quote j = symbolAt s.quote j) ∧
      t = { s with quote := { s.quote with symbols := t.quote.symbols } }) ∧
    ∀ flag : Byte, flag.toNat ≤ 1 → ∃ t y, exec (.halt h n flag) s = .next t ∧
      symbolAt t.quote n.toNat = some y ∧ y.reference = x.reference ∧ (y.halted = true ↔ flag = 1) ∧
      derived y ∧ kept y ∧ y.displayed = y.computed ∧ y.candidate = none ∧ y.agree = 0 ∧
      (∀ j, j ≠ n.toNat → symbolAt t.quote j = symbolAt s.quote j) ∧
      t = { s with quote := { s.quote with symbols := t.quote.symbols } }

/-- Spec 09 R143: MOVEMENT_WRITE replaces one entry whole, its flash frames clamped to 0..120. -/
def Obligations.MovementWriteReplacesTheEntry : Prop :=
  ∀ (h : Header) (f : MovementFields) (s : State), Ready s → h.level ≤ 1 → f.bank.toNat ≤ 1 → f.cls.toNat ≤ 5 →
    f.colour.toNat ≤ 63 → f.arrowPresent.toNat ≤ 1 → Table.wf Movement.initial s.quote.movement → ∃ t,
    exec (.movementWrite h f) s = .next t ∧
    (∀ i, movementAt t.quote i = if i = 6 * f.bank.toNat + f.cls.toNat then
        { colour := f.colour.toNat, arrow := if f.arrowPresent = 1 then some f.arrow else none,
          flash := min f.flash.toNat 120 }
      else movementAt s.quote i) ∧
    t = { s with quote := { s.quote with movement := t.quote.movement } }

/-- Spec 09 R144, R147: the limits in frames are those of the output format and every stale flag follows its symbol's age,
at every step. -/
def Obligations.LimitsAndStaleFlagsStaySound : Prop :=
  ∀ s t : State, LimitsMatchFormat s → StaleMatchesAge s → SymbolsSound s → step s = .next t →
    LimitsMatchFormat t ∧ StaleMatchesAge t ∧ SymbolsSound t

/-! ## Keyer, guard unit, report unit -/

/-- Spec 10 R164: KEY_ON and KEY_OFF set the wish, and aim the key at it with fade source KEY while the guard is NORMAL. -/
def Obligations.KeyCommandsSetTheWish : Prop :=
  ∀ (h : Header) (s : State), Ready s → h.level ≤ 1 →
    (s.guard.state ≠ .normal →
      exec (.keyOn h) s = .next { s with keyer := { s.keyer with wish := .on } } ∧
      exec (.keyOff h) s = .next { s with keyer := { s.keyer with wish := .off } }) ∧
    (s.guard.state = .normal →
      exec (.keyOn h) s = .next { s with keyer := { s.keyer with
        wish := .on, target := .on, source := .key,
        level := if s.keyer.keyFade = 0 then 256 else s.keyer.level } } ∧
      exec (.keyOff h) s = .next { s with keyer := { s.keyer with
        wish := .off, target := .off, source := .key,
        level := if s.keyer.keyFade = 0 then 0 else s.keyer.level } })

/-- Spec 11 R169, R174, R175: GUARD_CONFIG stores a cause's settings, settles whether the cause is in the set, recomputes the
guard, and the guard unit acts on the change. -/
def Obligations.GuardConfigSettlesTheCause : Prop :=
  ∀ (h : Header) (k : Cause) (e l : Bool) (a : Action) (s : State), Ready s → h.level = 0 → k ≠ .manual → ∃ t,
    let code : Byte := match k with
      | .inputLoss => 0
      | .feedLoss => 1
      | .intakeOverrun => 2
      | .manual => 3
    exec (.guardConfig h { cause := code, enable := if e then 1 else 0, mode := if l then 1 else 0,
                           action := if a = .slate then 1 else 0 }) s = .next t ∧
    causeConfig t.guard k = { enabled := e, latched := l, action := a } ∧
    (∀ j, j ≠ k → causeConfig t.guard j = causeConfig s.guard j ∧ t.guard.active.has j = s.guard.active.has j) ∧
    t.guard.active.has k = (e && (conditionPresent s k || l && s.guard.active.has k)) ∧
    t.guard.state = guardStateOf t.guard ∧ t.guard.manual = s.guard.manual ∧ t.guard.slate = s.guard.slate ∧
    GuardActs { s with guard := { s.guard with
      inputLoss := t.guard.inputLoss, feedLoss := t.guard.feedLoss, intakeOverrun := t.guard.intakeOverrun } } t ∧
    t.keyer.wish = s.keyer.wish ∧ t.glyphs = { s.glyphs with missing := t.glyphs.missing } ∧
    t = { s with guard := t.guard, keyer := t.keyer, glyphs := t.glyphs }

/-- Spec 11 R176: SLATE_CONFIG stores the slate configuration; while the action is SLATE the slate is resolved again, and
it is not otherwise. -/
def Obligations.SlateConfigStoresAndResolves : Prop :=
  ∀ (h : Header) (f : SlateFields) (s : State), Ready s → h.level = 0 → f.configure.toNat ≤ 1 →
    f.item.toNat ≤ 1023 → f.style.toNat ≤ 63 →
    let c : SlateConfig := {
      item := f.item.toNat, top := f.top.toNat, height := clampTo 8 128 f.height.toNat, left := f.left.toNat,
      right := f.right.toNat, style := f.style.toNat }
    let u : State := { s with guard := { s.guard with slate := if f.configure = 1 then some c else none } }
    (s.guard.state ≠ .guarded .slate → exec (.slateConfig h f) s = .next u) ∧
    (s.guard.state = .guarded .slate → ∃ t, exec (.slateConfig h f) s = .next t ∧ t.guard.slate = u.guard.slate ∧
      (f.configure = 0 → t.guard.resolved = none ∧ t.guard.slateFault = true) ∧
      (∀ i x offset length, f.configure = 1 → itemAt s f.item.toNat = some i → i.body = .text offset length →
        f.style.toNat ≠ 0 → styleAt s f.style.toNat = some x → i.owner ≤ x.owner → offset + length ≤ 32768 →
        t.guard.slateFault = false ∧ ∃ r, t.guard.resolved = some r ∧ r.style = x ∧
          r.codes = Memory.readRun s.text offset length ∧ 1 ≤ r.width ∧ r.width ≤ 16383) ∧
      ResolvesSlate s u.guard.slate s.glyphs.missing t ∧
      t.guard.state = s.guard.state ∧ t.guard.active = s.guard.active ∧
      t.glyphs = { s.glyphs with missing := t.glyphs.missing } ∧ t = { s with guard := t.guard, glyphs := t.glyphs })

/-- Spec 11 R172, R174, R175: GUARD_SET makes the manual condition present with its action and joins MANUAL; the guard is
GUARDED with the action of the set, the guard unit acts on the change, and with the cut flag the key level is 0 at once. -/
def Obligations.GuardSetJoinsManual : Prop :=
  ∀ (h : Header) (a : Action) (cut : Bool) (s : State), Ready s → h.level ≤ 1 → ∃ t,
    exec (.guardSet h (if a = .slate then 1 else 0) (if cut then 1 else 0)) s = .next t ∧
    t.guard.manual = true ∧ t.guard.manualAction = some a ∧
    t.guard.active = { s.guard.active with manual := true } ∧
    (∃ b, t.guard.state = .guarded b ∧
      (b = .clear ↔ ∃ k, t.guard.active.has k = true ∧ (causeConfig t.guard k).action = .clear)) ∧
    (∃ u, GuardActs { s with guard := { s.guard with manual := true, manualAction := some a } } u ∧
      (cut = false → t = u) ∧
      (cut = true → t = { u with keyer := { u.keyer with target := .off, level := 0, source := t.keyer.source } })) ∧
    (cut = true → t.keyer.level = 0 ∧ t.keyer.target = .off) ∧
    (s.guard.state = .normal → t.keyer.target = .off ∧
      (a = .slate → s.guard.active = .empty → t.keyer.level = 0)) ∧
    t.keyer.wish = s.keyer.wish ∧ t.guard.slate = s.guard.slate ∧ (∀ k, k ≠ .manual →
      causeConfig t.guard k = causeConfig s.guard k) ∧ t.glyphs = { s.glyphs with missing := t.glyphs.missing } ∧
    t = { s with guard := t.guard, keyer := t.keyer, glyphs := t.glyphs }

/-- Spec 11 R173, R175, spec 10 R166: GUARD_RELEASE takes out of the set MANUAL, every LATCHED cause whose condition has
gone, and FEED_LOSS where its condition has gone; it is refused with STATE where none leaves. The guard unit acts on the
change, and a part that becomes NORMAL hands the key back to the wish. -/
def Obligations.GuardReleaseTakesCausesOut : Prop :=
  ∀ (h : Header) (s : State), Ready s → h.level ≤ 1 →
    let leaves (k : Cause) : Prop := s.guard.active.has k = true ∧
      (k = .manual ∨ k = .feedLoss ∧ conditionPresent s .feedLoss = false ∨
        k ≠ .manual ∧ (causeConfig s.guard k).latched = true ∧ conditionPresent s k = false)
    ((∀ k, ¬leaves k) → exec (.guardRelease h) s = .next { s with engine := { s.engine with
      refusals := s.engine.refusals + 1,
      last := some { seq := h.seq, code := 0x73, reason := .state, frameCount := s.timing.counter } } }) ∧
    ((∃ k, leaves k) → ∃ t, exec (.guardRelease h) s = .next t ∧ t.guard.manual = false ∧
      (∀ k, t.guard.active.has k = true ↔ s.guard.active.has k = true ∧ ¬leaves k) ∧
      t.guard.state = guardStateOf t.guard ∧
      GuardActs { s with guard := { s.guard with manual := false } } t ∧
      (s.guard.state ≠ .normal → t.guard.active = .empty →
        t.guard.state = .normal ∧ t.guard.resolved = none ∧ t.keyer.target = s.keyer.wish ∧ t.keyer.source = .key) ∧
      t.keyer.wish = s.keyer.wish ∧ t.guard.slate = s.guard.slate ∧
      (∀ k, causeConfig t.guard k = causeConfig s.guard k) ∧
      t.glyphs = { s.glyphs with missing := t.glyphs.missing } ∧
      t = { s with guard := t.guard, keyer := t.keyer, glyphs := t.glyphs })

/-- Spec 12 R185, R186 and section 12.5: QUERY appends one reply with the query's sequence and every field of the object as
it stands, and is refused by the group and all-device routes, for a kind or an index out of range, and where 8 replies
wait. -/
def Obligations.QueryAppendsOneReply : Prop :=
  [.idle, .running, .draining].map laneStateCode = [0, 1, 2] ∧ [.loop, .singlePass].map laneModeCode = [0, 1] ∧
  [.upSmall, .upLarge, .downSmall, .downLarge, .flat, .halted].map classIndex = [0, 1, 2, 3, 4, 5] ∧
  ∀ (h : Header) (kind : Byte) (index : Half) (s : State), Ready s →
    let n := index.toNat
    let refused (r : Reason) : State := { s with engine := { s.engine with
      refusals := s.engine.refusals + 1,
      last := some { seq := h.seq, code := 0x7F, reason := r, frameCount := s.timing.counter } } }
    (h.route ≠ .device → exec (.query h kind index) s = .next (refused .misaddressed)) ∧
    (h.route = .device → 8 ≤ kind.toNat → exec (.query h kind index) s = .next (refused .range)) ∧
    ∀ size, [64, 1024, 512, 4, 4, 1024, 12, 64][kind.toNat]? = some size → h.route = .device →
    (size ≤ n → exec (.query h kind index) s = .next (refused .range)) ∧
    (n < size → 8 ≤ s.report.replies.length → exec (.query h kind index) s = .next (refused .replyFull)) ∧
    (n < size → s.report.replies.length < 8 → ∃ fields,
      exec (.query h kind index) s = .next { s with report := { s.report with
        replies := s.report.replies ++
          [{ seq := h.seq, payload := [kind, byte (n / 256), byte n] ++ fields }] } } ∧
      (kind = 0 → n = 0 ∨ styleAt s n = none → fields = [0]) ∧
      (∀ x, kind = 0 → n ≠ 0 → styleAt s n = some x → fields =
        [1, byte x.owner, byte x.font, byte x.textColour, byte x.bandColour] ++ bytes2 x.bandOpacity ++
          [byte x.padLeft, byte x.padRight, byte x.reserve, byte x.flashColour]) ∧
      (kind = 1 → itemAt s n = none → fields = [0]) ∧
      (∀ i, kind = 1 → itemAt s n = some i → fields = (match i.body with
        | .text offset length => [1, byte i.owner, 1, byte i.selector] ++ bytes2 offset ++ bytes2 length
        | .quote symbol f => [1, byte i.owner, 2, byte i.selector] ++ bytes2 symbol ++
            [byte (1 + f.price.toNat * 2 + f.arrow.toNat * 4 + f.change.toNat * 8 + f.percent.toNat * 16), 0]
        | .separator code width => [1, byte i.owner, 3, byte i.selector, code, byte width, 0, 0])) ∧
      (kind = 2 → symbolAt s.quote n = none → fields = [0]) ∧
      (∀ x, kind = 2 → symbolAt s.quote n = some x → fields =
        [1, byte x.owner, byte x.text.length] ++ (x.text ++ List.replicate 8 0).take 8 ++
          [byte x.decimals, byte x.inverse.toNat] ++ bytes4 x.reference ++ [byte x.last.isSome.toNat] ++
          bytes4 (x.last.getD 0) ++ bytes4Signed x.change ++ [byte x.percent.isSome.toNat] ++
          bytes4Signed (x.percent.getD 0) ++
          [byte (classIndex x.computed), byte (classIndex x.displayed), byte x.halted.toNat, byte x.flash] ++
          bytes2 x.age ++ [byte x.stale.toNat]) ∧
      (kind = 3 →
        let l := laneOf s n
        let config (c : LaneConfig) : List Byte := bytes2 c.top ++ [byte c.height] ++ bytes2 c.left ++
          bytes2 c.right ++ bytes2 c.gap ++ [byte c.defaultStyle, byte c.staleColour]
        fields = [1] ++ config l.config ++ bytes2 l.geometry.top ++ [byte l.geometry.height] ++
          bytes2 l.geometry.left ++ bytes2 l.geometry.right ++
          (match l.pending with
           | some c => [1] ++ config c
           | none => List.replicate 12 0) ++
          [byte l.owner, byte (laneStateCode l.state), byte (laneModeCode l.mode), byte l.passEnd.toNat,
           byte l.base.length, byte l.cursor] ++ bytes2 l.target ++ bytes2 l.step ++ bytes4 l.increment ++
          bytes4 l.crowded.toNat ++ bytes4 l.clipped.toNat ++ bytes4 l.drained.toNat) ∧
      (kind = 4 → s.glyphs.fonts.get n = none → fields = [0] ++ bytes2 s.glyphs.missing.toNat) ∧
      (∀ d, kind = 4 → s.glyphs.fonts.get n = some d → fields = [1] ++ bytes2 s.glyphs.missing.toNat ++
        bytes2 d.base ++ bytes2 d.count ++ [byte d.height, byte d.baseline] ++ bytes2 (d.defaultGlyph.getD 65535)) ∧
      (kind = 5 → fields = [1, byte (advanceOf s.glyphs n), byte (bitmapOf s.glyphs n)]) ∧
      (kind = 6 → fields = [1, byte (movementAt s.quote n).colour, byte (movementAt s.quote n).arrow.isSome.toNat,
        (movementAt s.quote n).arrow.getD 0, byte (movementAt s.quote n).flash]) ∧
      (kind = 7 → fields = [1] ++ bytes2 (writtenColour s.palette n).y ++
        bytes2 (writtenColour s.palette n).cb ++ bytes2 (writtenColour s.palette n).cr))

/-- Spec 10 R163, spec 11 R174, R177, R179: at every step the guard state is that of the active cause set, the slate is
shown only while the action is SLATE, the key level is 0..256, and the key target is 0 while the guard is GUARDED. -/
def Obligations.GuardAndKeyStaySound : Prop :=
  ∀ s t : State, GuardFollowsCauses s → SlateOnlyWhenSlate s → KeySound s → step s = .next t →
    GuardFollowsCauses t ∧ SlateOnlyWhenSlate t ∧ KeySound t

/-- Every invariant of the blocks holds of the part right after power-on reset. -/
def Obligations.ResetIsSound : Prop := Sound State.reset
end

