-- ==== Sys2Proof/Laws/State.lean ====
section
/-! SUPPORT. What each named update of the state leaves in each field: true by rfl, so that no proof unfolds a record
update. -/

namespace Sys2Proof.Machine

open Sys2Proof

/-! ### refuse -/

@[simp] theorem refuse_input (s : State) (q c : Byte) (r : Reason) : (refuse q c r s).input = s.input := rfl
@[simp] theorem refuse_timing (s : State) (q c : Byte) (r : Reason) : (refuse q c r s).timing = s.timing := rfl
@[simp] theorem refuse_intake (s : State) (q c : Byte) (r : Reason) : (refuse q c r s).intake = s.intake := rfl
@[simp] theorem refuse_engine (s : State) (q c : Byte) (r : Reason) :
    (refuse q c r s).engine =
      { s.engine with
          refusals := s.engine.refusals + 1,
          last := some { seq := q, code := c, reason := r, frameCount := s.timing.counter } } := rfl
@[simp] theorem refuse_glyphs (s : State) (q c : Byte) (r : Reason) : (refuse q c r s).glyphs = s.glyphs := rfl
@[simp] theorem refuse_palette (s : State) (q c : Byte) (r : Reason) : (refuse q c r s).palette = s.palette := rfl
@[simp] theorem refuse_styles (s : State) (q c : Byte) (r : Reason) : (refuse q c r s).styles = s.styles := rfl
@[simp] theorem refuse_text (s : State) (q c : Byte) (r : Reason) : (refuse q c r s).text = s.text := rfl
@[simp] theorem refuse_items (s : State) (q c : Byte) (r : Reason) : (refuse q c r s).items = s.items := rfl
@[simp] theorem refuse_quote (s : State) (q c : Byte) (r : Reason) : (refuse q c r s).quote = s.quote := rfl
@[simp] theorem refuse_lanes (s : State) (q c : Byte) (r : Reason) : (refuse q c r s).lanes = s.lanes := rfl
@[simp] theorem refuse_renderer (s : State) (q c : Byte) (r : Reason) :
    (refuse q c r s).renderer = s.renderer := rfl
@[simp] theorem refuse_keyer (s : State) (q c : Byte) (r : Reason) : (refuse q c r s).keyer = s.keyer := rfl
@[simp] theorem refuse_guard (s : State) (q c : Byte) (r : Reason) : (refuse q c r s).guard = s.guard := rfl
@[simp] theorem refuse_report (s : State) (q c : Byte) (r : Reason) : (refuse q c r s).report = s.report := rfl
@[simp] theorem refuse_pins (s : State) (q c : Byte) (r : Reason) : (refuse q c r s).pins = s.pins := rfl
@[simp] theorem refuse_powerOns (s : State) (q c : Byte) (r : Reason) :
    (refuse q c r s).powerOns = s.powerOns := rfl
@[simp] theorem refuse_pending (s : State) (q c : Byte) (r : Reason) : (refuse q c r s).pending = s.pending := rfl

/-! ### countMissing -/

@[simp] theorem countMissing_input (s : State) (n : Nat) : (countMissing n s).input = s.input := rfl
@[simp] theorem countMissing_timing (s : State) (n : Nat) : (countMissing n s).timing = s.timing := rfl
@[simp] theorem countMissing_intake (s : State) (n : Nat) : (countMissing n s).intake = s.intake := rfl
@[simp] theorem countMissing_engine (s : State) (n : Nat) : (countMissing n s).engine = s.engine := rfl
@[simp] theorem countMissing_glyphs (s : State) (n : Nat) :
    (countMissing n s).glyphs = { s.glyphs with missing := s.glyphs.missing + BitVec.ofNat 32 n } := rfl
@[simp] theorem countMissing_palette (s : State) (n : Nat) : (countMissing n s).palette = s.palette := rfl
@[simp] theorem countMissing_styles (s : State) (n : Nat) : (countMissing n s).styles = s.styles := rfl
@[simp] theorem countMissing_text (s : State) (n : Nat) : (countMissing n s).text = s.text := rfl
@[simp] theorem countMissing_items (s : State) (n : Nat) : (countMissing n s).items = s.items := rfl
@[simp] theorem countMissing_quote (s : State) (n : Nat) : (countMissing n s).quote = s.quote := rfl
@[simp] theorem countMissing_lanes (s : State) (n : Nat) : (countMissing n s).lanes = s.lanes := rfl
@[simp] theorem countMissing_renderer (s : State) (n : Nat) : (countMissing n s).renderer = s.renderer := rfl
@[simp] theorem countMissing_keyer (s : State) (n : Nat) : (countMissing n s).keyer = s.keyer := rfl
@[simp] theorem countMissing_guard (s : State) (n : Nat) : (countMissing n s).guard = s.guard := rfl
@[simp] theorem countMissing_report (s : State) (n : Nat) : (countMissing n s).report = s.report := rfl
@[simp] theorem countMissing_pins (s : State) (n : Nat) : (countMissing n s).pins = s.pins := rfl
@[simp] theorem countMissing_powerOns (s : State) (n : Nat) : (countMissing n s).powerOns = s.powerOns := rfl
@[simp] theorem countMissing_pending (s : State) (n : Nat) : (countMissing n s).pending = s.pending := rfl

/-! ### setLane -/

@[simp] theorem setLane_input (s : State) (m : Nat) (l : Lane) : (setLane s m l).input = s.input := rfl
@[simp] theorem setLane_timing (s : State) (m : Nat) (l : Lane) : (setLane s m l).timing = s.timing := rfl
@[simp] theorem setLane_intake (s : State) (m : Nat) (l : Lane) : (setLane s m l).intake = s.intake := rfl
@[simp] theorem setLane_engine (s : State) (m : Nat) (l : Lane) : (setLane s m l).engine = s.engine := rfl
@[simp] theorem setLane_glyphs (s : State) (m : Nat) (l : Lane) : (setLane s m l).glyphs = s.glyphs := rfl
@[simp] theorem setLane_palette (s : State) (m : Nat) (l : Lane) : (setLane s m l).palette = s.palette := rfl
@[simp] theorem setLane_styles (s : State) (m : Nat) (l : Lane) : (setLane s m l).styles = s.styles := rfl
@[simp] theorem setLane_text (s : State) (m : Nat) (l : Lane) : (setLane s m l).text = s.text := rfl
@[simp] theorem setLane_items (s : State) (m : Nat) (l : Lane) : (setLane s m l).items = s.items := rfl
@[simp] theorem setLane_quote (s : State) (m : Nat) (l : Lane) : (setLane s m l).quote = s.quote := rfl
@[simp] theorem setLane_lanes (s : State) (m : Nat) (l : Lane) : (setLane s m l).lanes = s.lanes.set m l := rfl
@[simp] theorem setLane_renderer (s : State) (m : Nat) (l : Lane) : (setLane s m l).renderer = s.renderer := rfl
@[simp] theorem setLane_keyer (s : State) (m : Nat) (l : Lane) : (setLane s m l).keyer = s.keyer := rfl
@[simp] theorem setLane_guard (s : State) (m : Nat) (l : Lane) : (setLane s m l).guard = s.guard := rfl
@[simp] theorem setLane_report (s : State) (m : Nat) (l : Lane) : (setLane s m l).report = s.report := rfl
@[simp] theorem setLane_pins (s : State) (m : Nat) (l : Lane) : (setLane s m l).pins = s.pins := rfl
@[simp] theorem setLane_powerOns (s : State) (m : Nat) (l : Lane) : (setLane s m l).powerOns = s.powerOns := rfl
@[simp] theorem setLane_pending (s : State) (m : Nat) (l : Lane) : (setLane s m l).pending = s.pending := rfl

/-! ### setStyle -/

@[simp] theorem setStyle_input (s : State) (n : Nat) (x : Option Style) : (setStyle s n x).input = s.input := rfl
@[simp] theorem setStyle_timing (s : State) (n : Nat) (x : Option Style) : (setStyle s n x).timing = s.timing := rfl
@[simp] theorem setStyle_intake (s : State) (n : Nat) (x : Option Style) : (setStyle s n x).intake = s.intake := rfl
@[simp] theorem setStyle_engine (s : State) (n : Nat) (x : Option Style) : (setStyle s n x).engine = s.engine := rfl
@[simp] theorem setStyle_glyphs (s : State) (n : Nat) (x : Option Style) : (setStyle s n x).glyphs = s.glyphs := rfl
@[simp] theorem setStyle_palette (s : State) (n : Nat) (x : Option Style) :
    (setStyle s n x).palette = s.palette := rfl
@[simp] theorem setStyle_styles (s : State) (n : Nat) (x : Option Style) :
    (setStyle s n x).styles = Table.set none s.styles n x := rfl
@[simp] theorem setStyle_text (s : State) (n : Nat) (x : Option Style) : (setStyle s n x).text = s.text := rfl
@[simp] theorem setStyle_items (s : State) (n : Nat) (x : Option Style) : (setStyle s n x).items = s.items := rfl
@[simp] theorem setStyle_quote (s : State) (n : Nat) (x : Option Style) : (setStyle s n x).quote = s.quote := rfl
@[simp] theorem setStyle_lanes (s : State) (n : Nat) (x : Option Style) : (setStyle s n x).lanes = s.lanes := rfl
@[simp] theorem setStyle_renderer (s : State) (n : Nat) (x : Option Style) :
    (setStyle s n x).renderer = s.renderer := rfl
@[simp] theorem setStyle_keyer (s : State) (n : Nat) (x : Option Style) : (setStyle s n x).keyer = s.keyer := rfl
@[simp] theorem setStyle_guard (s : State) (n : Nat) (x : Option Style) : (setStyle s n x).guard = s.guard := rfl
@[simp] theorem setStyle_report (s : State) (n : Nat) (x : Option Style) : (setStyle s n x).report = s.report := rfl
@[simp] theorem setStyle_pins (s : State) (n : Nat) (x : Option Style) : (setStyle s n x).pins = s.pins := rfl
@[simp] theorem setStyle_powerOns (s : State) (n : Nat) (x : Option Style) :
    (setStyle s n x).powerOns = s.powerOns := rfl
@[simp] theorem setStyle_pending (s : State) (n : Nat) (x : Option Style) :
    (setStyle s n x).pending = s.pending := rfl

/-! ### setItem -/

@[simp] theorem setItem_input (s : State) (n : Nat) (x : Option Item) : (setItem s n x).input = s.input := rfl
@[simp] theorem setItem_timing (s : State) (n : Nat) (x : Option Item) : (setItem s n x).timing = s.timing := rfl
@[simp] theorem setItem_intake (s : State) (n : Nat) (x : Option Item) : (setItem s n x).intake = s.intake := rfl
@[simp] theorem setItem_engine (s : State) (n : Nat) (x : Option Item) : (setItem s n x).engine = s.engine := rfl
@[simp] theorem setItem_glyphs (s : State) (n : Nat) (x : Option Item) : (setItem s n x).glyphs = s.glyphs := rfl
@[simp] theorem setItem_palette (s : State) (n : Nat) (x : Option Item) : (setItem s n x).palette = s.palette := rfl
@[simp] theorem setItem_styles (s : State) (n : Nat) (x : Option Item) : (setItem s n x).styles = s.styles := rfl
@[simp] theorem setItem_text (s : State) (n : Nat) (x : Option Item) : (setItem s n x).text = s.text := rfl
@[simp] theorem setItem_items (s : State) (n : Nat) (x : Option Item) :
    (setItem s n x).items = Table.set none s.items n x := rfl
@[simp] theorem setItem_quote (s : State) (n : Nat) (x : Option Item) : (setItem s n x).quote = s.quote := rfl
@[simp] theorem setItem_lanes (s : State) (n : Nat) (x : Option Item) : (setItem s n x).lanes = s.lanes := rfl
@[simp] theorem setItem_renderer (s : State) (n : Nat) (x : Option Item) :
    (setItem s n x).renderer = s.renderer := rfl
@[simp] theorem setItem_keyer (s : State) (n : Nat) (x : Option Item) : (setItem s n x).keyer = s.keyer := rfl
@[simp] theorem setItem_guard (s : State) (n : Nat) (x : Option Item) : (setItem s n x).guard = s.guard := rfl
@[simp] theorem setItem_report (s : State) (n : Nat) (x : Option Item) : (setItem s n x).report = s.report := rfl
@[simp] theorem setItem_pins (s : State) (n : Nat) (x : Option Item) : (setItem s n x).pins = s.pins := rfl
@[simp] theorem setItem_powerOns (s : State) (n : Nat) (x : Option Item) :
    (setItem s n x).powerOns = s.powerOns := rfl
@[simp] theorem setItem_pending (s : State) (n : Nat) (x : Option Item) : (setItem s n x).pending = s.pending := rfl

/-! ### appendEntry -/

@[simp] theorem appendEntry_input (s : State) (e : Entry) : (appendEntry e s).input = s.input := rfl
@[simp] theorem appendEntry_timing (s : State) (e : Entry) : (appendEntry e s).timing = s.timing := rfl
@[simp] theorem appendEntry_intake (s : State) (e : Entry) :
    (appendEntry e s).intake = { s.intake with queue := s.intake.queue ++ [e] } := rfl
@[simp] theorem appendEntry_engine (s : State) (e : Entry) : (appendEntry e s).engine = s.engine := rfl
@[simp] theorem appendEntry_glyphs (s : State) (e : Entry) : (appendEntry e s).glyphs = s.glyphs := rfl
@[simp] theorem appendEntry_palette (s : State) (e : Entry) : (appendEntry e s).palette = s.palette := rfl
@[simp] theorem appendEntry_styles (s : State) (e : Entry) : (appendEntry e s).styles = s.styles := rfl
@[simp] theorem appendEntry_text (s : State) (e : Entry) : (appendEntry e s).text = s.text := rfl
@[simp] theorem appendEntry_items (s : State) (e : Entry) : (appendEntry e s).items = s.items := rfl
@[simp] theorem appendEntry_quote (s : State) (e : Entry) : (appendEntry e s).quote = s.quote := rfl
@[simp] theorem appendEntry_lanes (s : State) (e : Entry) : (appendEntry e s).lanes = s.lanes := rfl
@[simp] theorem appendEntry_renderer (s : State) (e : Entry) : (appendEntry e s).renderer = s.renderer := rfl
@[simp] theorem appendEntry_keyer (s : State) (e : Entry) : (appendEntry e s).keyer = s.keyer := rfl
@[simp] theorem appendEntry_guard (s : State) (e : Entry) : (appendEntry e s).guard = s.guard := rfl
@[simp] theorem appendEntry_report (s : State) (e : Entry) : (appendEntry e s).report = s.report := rfl
@[simp] theorem appendEntry_pins (s : State) (e : Entry) : (appendEntry e s).pins = s.pins := rfl
@[simp] theorem appendEntry_powerOns (s : State) (e : Entry) : (appendEntry e s).powerOns = s.powerOns := rfl
@[simp] theorem appendEntry_pending (s : State) (e : Entry) : (appendEntry e s).pending = s.pending := rfl

/-! ### markCause -/

@[simp] theorem markCause_input (s : State) (k : Cause) (b : Bool) : (markCause k b s).input = s.input := rfl
@[simp] theorem markCause_timing (s : State) (k : Cause) (b : Bool) : (markCause k b s).timing = s.timing := rfl
@[simp] theorem markCause_intake (s : State) (k : Cause) (b : Bool) : (markCause k b s).intake = s.intake := rfl
@[simp] theorem markCause_engine (s : State) (k : Cause) (b : Bool) : (markCause k b s).engine = s.engine := rfl
@[simp] theorem markCause_glyphs (s : State) (k : Cause) (b : Bool) : (markCause k b s).glyphs = s.glyphs := rfl
@[simp] theorem markCause_palette (s : State) (k : Cause) (b : Bool) : (markCause k b s).palette = s.palette := rfl
@[simp] theorem markCause_styles (s : State) (k : Cause) (b : Bool) : (markCause k b s).styles = s.styles := rfl
@[simp] theorem markCause_text (s : State) (k : Cause) (b : Bool) : (markCause k b s).text = s.text := rfl
@[simp] theorem markCause_items (s : State) (k : Cause) (b : Bool) : (markCause k b s).items = s.items := rfl
@[simp] theorem markCause_quote (s : State) (k : Cause) (b : Bool) : (markCause k b s).quote = s.quote := rfl
@[simp] theorem markCause_lanes (s : State) (k : Cause) (b : Bool) : (markCause k b s).lanes = s.lanes := rfl
@[simp] theorem markCause_renderer (s : State) (k : Cause) (b : Bool) :
    (markCause k b s).renderer = s.renderer := rfl
@[simp] theorem markCause_keyer (s : State) (k : Cause) (b : Bool) : (markCause k b s).keyer = s.keyer := rfl
@[simp] theorem markCause_guard (s : State) (k : Cause) (b : Bool) :
    (markCause k b s).guard = { s.guard with active := s.guard.active.put k b } := rfl
@[simp] theorem markCause_report (s : State) (k : Cause) (b : Bool) : (markCause k b s).report = s.report := rfl
@[simp] theorem markCause_pins (s : State) (k : Cause) (b : Bool) : (markCause k b s).pins = s.pins := rfl
@[simp] theorem markCause_powerOns (s : State) (k : Cause) (b : Bool) :
    (markCause k b s).powerOns = s.powerOns := rfl
@[simp] theorem markCause_pending (s : State) (k : Cause) (b : Bool) : (markCause k b s).pending = s.pending := rfl

/-! ### sendFade -/

@[simp] theorem sendFade_input (s : State) : (sendFade s).input = s.input := rfl
@[simp] theorem sendFade_timing (s : State) : (sendFade s).timing = s.timing := rfl
@[simp] theorem sendFade_intake (s : State) : (sendFade s).intake = s.intake := rfl
@[simp] theorem sendFade_engine (s : State) : (sendFade s).engine = s.engine := rfl
@[simp] theorem sendFade_glyphs (s : State) : (sendFade s).glyphs = s.glyphs := rfl
@[simp] theorem sendFade_palette (s : State) : (sendFade s).palette = s.palette := rfl
@[simp] theorem sendFade_styles (s : State) : (sendFade s).styles = s.styles := rfl
@[simp] theorem sendFade_text (s : State) : (sendFade s).text = s.text := rfl
@[simp] theorem sendFade_items (s : State) : (sendFade s).items = s.items := rfl
@[simp] theorem sendFade_quote (s : State) : (sendFade s).quote = s.quote := rfl
@[simp] theorem sendFade_lanes (s : State) : (sendFade s).lanes = s.lanes := rfl
@[simp] theorem sendFade_renderer (s : State) : (sendFade s).renderer = s.renderer := rfl
@[simp] theorem sendFade_keyer (s : State) : (sendFade s).keyer = fadeToZero s.guard.guardFade s.keyer := rfl
@[simp] theorem sendFade_guard (s : State) : (sendFade s).guard = s.guard := rfl
@[simp] theorem sendFade_report (s : State) : (sendFade s).report = s.report := rfl
@[simp] theorem sendFade_pins (s : State) : (sendFade s).pins = s.pins := rfl
@[simp] theorem sendFade_powerOns (s : State) : (sendFade s).powerOns = s.powerOns := rfl
@[simp] theorem sendFade_pending (s : State) : (sendFade s).pending = s.pending := rfl

/-! ### sendCut -/

@[simp] theorem sendCut_input (s : State) : (sendCut s).input = s.input := rfl
@[simp] theorem sendCut_timing (s : State) : (sendCut s).timing = s.timing := rfl
@[simp] theorem sendCut_intake (s : State) : (sendCut s).intake = s.intake := rfl
@[simp] theorem sendCut_engine (s : State) : (sendCut s).engine = s.engine := rfl
@[simp] theorem sendCut_glyphs (s : State) : (sendCut s).glyphs = s.glyphs := rfl
@[simp] theorem sendCut_palette (s : State) : (sendCut s).palette = s.palette := rfl
@[simp] theorem sendCut_styles (s : State) : (sendCut s).styles = s.styles := rfl
@[simp] theorem sendCut_text (s : State) : (sendCut s).text = s.text := rfl
@[simp] theorem sendCut_items (s : State) : (sendCut s).items = s.items := rfl
@[simp] theorem sendCut_quote (s : State) : (sendCut s).quote = s.quote := rfl
@[simp] theorem sendCut_lanes (s : State) : (sendCut s).lanes = s.lanes := rfl
@[simp] theorem sendCut_renderer (s : State) : (sendCut s).renderer = s.renderer := rfl
@[simp] theorem sendCut_keyer (s : State) : (sendCut s).keyer = cutToZero s.keyer := rfl
@[simp] theorem sendCut_guard (s : State) : (sendCut s).guard = s.guard := rfl
@[simp] theorem sendCut_report (s : State) : (sendCut s).report = s.report := rfl
@[simp] theorem sendCut_pins (s : State) : (sendCut s).pins = s.pins := rfl
@[simp] theorem sendCut_powerOns (s : State) : (sendCut s).powerOns = s.powerOns := rfl
@[simp] theorem sendCut_pending (s : State) : (sendCut s).pending = s.pending := rfl

/-! ### sendRelease -/

@[simp] theorem sendRelease_input (s : State) : (sendRelease s).input = s.input := rfl
@[simp] theorem sendRelease_timing (s : State) : (sendRelease s).timing = s.timing := rfl
@[simp] theorem sendRelease_intake (s : State) : (sendRelease s).intake = s.intake := rfl
@[simp] theorem sendRelease_engine (s : State) : (sendRelease s).engine = s.engine := rfl
@[simp] theorem sendRelease_glyphs (s : State) : (sendRelease s).glyphs = s.glyphs := rfl
@[simp] theorem sendRelease_palette (s : State) : (sendRelease s).palette = s.palette := rfl
@[simp] theorem sendRelease_styles (s : State) : (sendRelease s).styles = s.styles := rfl
@[simp] theorem sendRelease_text (s : State) : (sendRelease s).text = s.text := rfl
@[simp] theorem sendRelease_items (s : State) : (sendRelease s).items = s.items := rfl
@[simp] theorem sendRelease_quote (s : State) : (sendRelease s).quote = s.quote := rfl
@[simp] theorem sendRelease_lanes (s : State) : (sendRelease s).lanes = s.lanes := rfl
@[simp] theorem sendRelease_renderer (s : State) : (sendRelease s).renderer = s.renderer := rfl
@[simp] theorem sendRelease_keyer (s : State) : (sendRelease s).keyer = releaseKey s.keyer := rfl
@[simp] theorem sendRelease_guard (s : State) : (sendRelease s).guard = s.guard := rfl
@[simp] theorem sendRelease_report (s : State) : (sendRelease s).report = s.report := rfl
@[simp] theorem sendRelease_pins (s : State) : (sendRelease s).pins = s.pins := rfl
@[simp] theorem sendRelease_powerOns (s : State) : (sendRelease s).powerOns = s.powerOns := rfl
@[simp] theorem sendRelease_pending (s : State) : (sendRelease s).pending = s.pending := rfl

/-! ### withdrawSlate -/

@[simp] theorem withdrawSlate_input (s : State) : (withdrawSlate s).input = s.input := rfl
@[simp] theorem withdrawSlate_timing (s : State) : (withdrawSlate s).timing = s.timing := rfl
@[simp] theorem withdrawSlate_intake (s : State) : (withdrawSlate s).intake = s.intake := rfl
@[simp] theorem withdrawSlate_engine (s : State) : (withdrawSlate s).engine = s.engine := rfl
@[simp] theorem withdrawSlate_glyphs (s : State) : (withdrawSlate s).glyphs = s.glyphs := rfl
@[simp] theorem withdrawSlate_palette (s : State) : (withdrawSlate s).palette = s.palette := rfl
@[simp] theorem withdrawSlate_styles (s : State) : (withdrawSlate s).styles = s.styles := rfl
@[simp] theorem withdrawSlate_text (s : State) : (withdrawSlate s).text = s.text := rfl
@[simp] theorem withdrawSlate_items (s : State) : (withdrawSlate s).items = s.items := rfl
@[simp] theorem withdrawSlate_quote (s : State) : (withdrawSlate s).quote = s.quote := rfl
@[simp] theorem withdrawSlate_lanes (s : State) : (withdrawSlate s).lanes = s.lanes := rfl
@[simp] theorem withdrawSlate_renderer (s : State) : (withdrawSlate s).renderer = s.renderer := rfl
@[simp] theorem withdrawSlate_keyer (s : State) : (withdrawSlate s).keyer = s.keyer := rfl
@[simp] theorem withdrawSlate_guard (s : State) : (withdrawSlate s).guard = { s.guard with resolved := none } := rfl
@[simp] theorem withdrawSlate_report (s : State) : (withdrawSlate s).report = s.report := rfl
@[simp] theorem withdrawSlate_pins (s : State) : (withdrawSlate s).pins = s.pins := rfl
@[simp] theorem withdrawSlate_powerOns (s : State) : (withdrawSlate s).powerOns = s.powerOns := rfl
@[simp] theorem withdrawSlate_pending (s : State) : (withdrawSlate s).pending = s.pending := rfl

/-! ### putInput -/

@[simp] theorem putInput_input (s : State) (u : InputUnit) : (putInput u s).input = u := rfl
@[simp] theorem putInput_intake (s : State) (u : InputUnit) : (putInput u s).intake = s.intake := rfl
@[simp] theorem putInput_engine (s : State) (u : InputUnit) : (putInput u s).engine = s.engine := rfl
@[simp] theorem putInput_glyphs (s : State) (u : InputUnit) : (putInput u s).glyphs = s.glyphs := rfl
@[simp] theorem putInput_palette (s : State) (u : InputUnit) : (putInput u s).palette = s.palette := rfl
@[simp] theorem putInput_styles (s : State) (u : InputUnit) : (putInput u s).styles = s.styles := rfl
@[simp] theorem putInput_text (s : State) (u : InputUnit) : (putInput u s).text = s.text := rfl
@[simp] theorem putInput_items (s : State) (u : InputUnit) : (putInput u s).items = s.items := rfl
@[simp] theorem putInput_quote (s : State) (u : InputUnit) : (putInput u s).quote = s.quote := rfl
@[simp] theorem putInput_lanes (s : State) (u : InputUnit) : (putInput u s).lanes = s.lanes := rfl
@[simp] theorem putInput_renderer (s : State) (u : InputUnit) : (putInput u s).renderer = s.renderer := rfl
@[simp] theorem putInput_keyer (s : State) (u : InputUnit) : (putInput u s).keyer = s.keyer := rfl
@[simp] theorem putInput_guard (s : State) (u : InputUnit) : (putInput u s).guard = s.guard := rfl
@[simp] theorem putInput_report (s : State) (u : InputUnit) : (putInput u s).report = s.report := rfl
@[simp] theorem putInput_pins (s : State) (u : InputUnit) : (putInput u s).pins = s.pins := rfl
@[simp] theorem putInput_powerOns (s : State) (u : InputUnit) : (putInput u s).powerOns = s.powerOns := rfl
@[simp] theorem putInput_pending (s : State) (u : InputUnit) : (putInput u s).pending = s.pending := rfl

/-! ### storeSettings -/

@[simp] theorem storeSettings_input (s : State) (f : DeviceFields) : (storeSettings f s).input = s.input := rfl
@[simp] theorem storeSettings_timing (s : State) (f : DeviceFields) : (storeSettings f s).timing = s.timing := rfl
@[simp] theorem storeSettings_intake (s : State) (f : DeviceFields) :
    (storeSettings f s).intake = deviceIntake f s.intake := rfl
@[simp] theorem storeSettings_engine (s : State) (f : DeviceFields) : (storeSettings f s).engine = s.engine := rfl
@[simp] theorem storeSettings_glyphs (s : State) (f : DeviceFields) : (storeSettings f s).glyphs = s.glyphs := rfl
@[simp] theorem storeSettings_palette (s : State) (f : DeviceFields) :
    (storeSettings f s).palette = s.palette := rfl
@[simp] theorem storeSettings_styles (s : State) (f : DeviceFields) : (storeSettings f s).styles = s.styles := rfl
@[simp] theorem storeSettings_text (s : State) (f : DeviceFields) : (storeSettings f s).text = s.text := rfl
@[simp] theorem storeSettings_items (s : State) (f : DeviceFields) : (storeSettings f s).items = s.items := rfl
@[simp] theorem storeSettings_quote (s : State) (f : DeviceFields) :
    (storeSettings f s).quote = deviceQuote s.timing.format f s.quote := rfl
@[simp] theorem storeSettings_lanes (s : State) (f : DeviceFields) : (storeSettings f s).lanes = s.lanes := rfl
@[simp] theorem storeSettings_renderer (s : State) (f : DeviceFields) :
    (storeSettings f s).renderer = s.renderer := rfl
@[simp] theorem storeSettings_keyer (s : State) (f : DeviceFields) :
    (storeSettings f s).keyer = { s.keyer with keyFade := (f.keyFade.map BitVec.toNat).getD s.keyer.keyFade } := rfl
@[simp] theorem storeSettings_guard (s : State) (f : DeviceFields) :
    (storeSettings f s).guard =
      { s.guard with guardFade := (f.guardFade.map BitVec.toNat).getD s.guard.guardFade } := rfl
@[simp] theorem storeSettings_report (s : State) (f : DeviceFields) : (storeSettings f s).report = s.report := rfl
@[simp] theorem storeSettings_pins (s : State) (f : DeviceFields) : (storeSettings f s).pins = s.pins := rfl
@[simp] theorem storeSettings_powerOns (s : State) (f : DeviceFields) :
    (storeSettings f s).powerOns = s.powerOns := rfl
@[simp] theorem storeSettings_pending (s : State) (f : DeviceFields) :
    (storeSettings f s).pending = s.pending := rfl

/-! ### beginFrame -/

@[simp] theorem beginFrame_input (s : State) : (beginFrame s).input = s.input := rfl
@[simp] theorem beginFrame_timing (s : State) : (beginFrame s).timing = timingFrame s.timing := rfl
@[simp] theorem beginFrame_intake (s : State) : (beginFrame s).intake = s.intake := rfl
@[simp] theorem beginFrame_engine (s : State) : (beginFrame s).engine = s.engine := rfl
@[simp] theorem beginFrame_glyphs (s : State) : (beginFrame s).glyphs = s.glyphs := rfl
@[simp] theorem beginFrame_palette (s : State) : (beginFrame s).palette = paletteFrame s.palette := rfl
@[simp] theorem beginFrame_styles (s : State) : (beginFrame s).styles = s.styles := rfl
@[simp] theorem beginFrame_text (s : State) : (beginFrame s).text = s.text := rfl
@[simp] theorem beginFrame_items (s : State) : (beginFrame s).items = s.items := rfl
@[simp] theorem beginFrame_quote (s : State) : (beginFrame s).quote = s.quote := rfl
@[simp] theorem beginFrame_lanes (s : State) : (beginFrame s).lanes = s.lanes := rfl
@[simp] theorem beginFrame_renderer (s : State) : (beginFrame s).renderer = { s.renderer with nextLine := 0 } := rfl
@[simp] theorem beginFrame_keyer (s : State) : (beginFrame s).keyer = s.keyer := rfl
@[simp] theorem beginFrame_guard (s : State) : (beginFrame s).guard = s.guard := rfl
@[simp] theorem beginFrame_report (s : State) : (beginFrame s).report = s.report := rfl
@[simp] theorem beginFrame_pins (s : State) : (beginFrame s).pins = s.pins := rfl
@[simp] theorem beginFrame_powerOns (s : State) : (beginFrame s).powerOns = s.powerOns := rfl
@[simp] theorem beginFrame_pending (s : State) : (beginFrame s).pending = s.pending := rfl

/-! ### writeReports -/

@[simp] theorem writeReports_input (s : State) (h : StatusHead) : (writeReports h s).input = s.input := rfl
@[simp] theorem writeReports_timing (s : State) (h : StatusHead) : (writeReports h s).timing = s.timing := rfl
@[simp] theorem writeReports_intake (s : State) (h : StatusHead) : (writeReports h s).intake = s.intake := rfl
@[simp] theorem writeReports_engine (s : State) (h : StatusHead) : (writeReports h s).engine = s.engine := rfl
@[simp] theorem writeReports_glyphs (s : State) (h : StatusHead) : (writeReports h s).glyphs = s.glyphs := rfl
@[simp] theorem writeReports_palette (s : State) (h : StatusHead) : (writeReports h s).palette = s.palette := rfl
@[simp] theorem writeReports_styles (s : State) (h : StatusHead) : (writeReports h s).styles = s.styles := rfl
@[simp] theorem writeReports_text (s : State) (h : StatusHead) : (writeReports h s).text = s.text := rfl
@[simp] theorem writeReports_items (s : State) (h : StatusHead) : (writeReports h s).items = s.items := rfl
@[simp] theorem writeReports_quote (s : State) (h : StatusHead) : (writeReports h s).quote = s.quote := rfl
@[simp] theorem writeReports_lanes (s : State) (h : StatusHead) : (writeReports h s).lanes = s.lanes := rfl
@[simp] theorem writeReports_renderer (s : State) (h : StatusHead) : (writeReports h s).renderer = s.renderer := rfl
@[simp] theorem writeReports_keyer (s : State) (h : StatusHead) : (writeReports h s).keyer = s.keyer := rfl
@[simp] theorem writeReports_guard (s : State) (h : StatusHead) : (writeReports h s).guard = s.guard := rfl
@[simp] theorem writeReports_pins (s : State) (h : StatusHead) : (writeReports h s).pins = s.pins := rfl
@[simp] theorem writeReports_powerOns (s : State) (h : StatusHead) : (writeReports h s).powerOns = s.powerOns := rfl
@[simp] theorem writeReports_pending (s : State) (h : StatusHead) : (writeReports h s).pending = s.pending := rfl

/-! ### powerOnReset -/

@[simp] theorem powerOnReset_input (s : State) : (powerOnReset s).input = .initial := rfl
@[simp] theorem powerOnReset_timing (s : State) : (powerOnReset s).timing = .initial := rfl
@[simp] theorem powerOnReset_intake (s : State) : (powerOnReset s).intake = .initial := rfl
@[simp] theorem powerOnReset_engine (s : State) : (powerOnReset s).engine = .initial := rfl
@[simp] theorem powerOnReset_palette (s : State) : (powerOnReset s).palette = .initial := rfl
@[simp] theorem powerOnReset_quote (s : State) : (powerOnReset s).quote = .initial := rfl
@[simp] theorem powerOnReset_lanes (s : State) : (powerOnReset s).lanes = .all .initial := rfl
@[simp] theorem powerOnReset_renderer (s : State) : (powerOnReset s).renderer = .initial := rfl
@[simp] theorem powerOnReset_keyer (s : State) : (powerOnReset s).keyer = .initial := rfl
@[simp] theorem powerOnReset_guard (s : State) : (powerOnReset s).guard = .initial := rfl
@[simp] theorem powerOnReset_report (s : State) : (powerOnReset s).report = .initial := rfl
@[simp] theorem powerOnReset_powerOns (s : State) : (powerOnReset s).powerOns = s.powerOns + 1 := rfl
@[simp] theorem powerOnReset_pending (s : State) : (powerOnReset s).pending = s.pending := rfl

/-! ### The mode set by a change of the input unit -/

@[simp] theorem putInput_format (s : State) (u : InputUnit) : (putInput u s).timing.format = s.timing.format := rfl
@[simp] theorem putInput_counter (s : State) (u : InputUnit) : (putInput u s).timing.counter = s.timing.counter := rfl
@[simp] theorem putInput_mode (s : State) (u : InputUnit) : (putInput u s).timing.mode = modeOf u.state := rfl
@[simp] theorem putInput_starts (s : State) (u : InputUnit) : (putInput u s).timing.starts = s.timing.starts := rfl
@[simp] theorem putInput_frame (s : State) (u : InputUnit) : (putInput u s).timing.frame = s.timing.frame := rfl

end Sys2Proof.Machine
end

