-- ==== Sys2Proof/Laws/Tables.lean ====
section
/-! SUPPORT. The addressed stores and the four-fold carriers: a read after a write, and the canonical form kept. -/

namespace Sys2Proof.Machine

open Sys2Proof

/-! ## Four-fold carriers -/

theorem Quad.get_set_same {α : Type} (q : Quad α) (n : Nat) (a : α) : (q.set n a).get n = a := by
  match n with
  | 0 | 1 | 2 => rfl
  | _ + 3 => rfl

theorem Quad.get_set_other {α : Type} (q : Quad α) (m n : Nat) (a : α) (h : min m 3 ≠ min n 3) :
    (q.set n a).get m = q.get m := by
  match m, n with
  | 0, 0 | 1, 1 | 2, 2 => exact absurd rfl h
  | 0, 1 | 0, 2 | 1, 0 | 1, 2 | 2, 0 | 2, 1 => rfl
  | 0, _ + 3 | 1, _ + 3 | 2, _ + 3 => rfl
  | _ + 3, 0 | _ + 3, 1 | _ + 3, 2 => rfl
  | _ + 3, _ + 3 => exact absurd (by omega) h

@[simp] theorem Quad.get_map {α β : Type} (f : α → β) (q : Quad α) (n : Nat) : (q.map f).get n = f (q.get n) := by
  match n with
  | 0 | 1 | 2 => rfl
  | _ + 3 => rfl

theorem Quad.forAll_iff {α : Type} (p : α → Bool) (q : Quad α) :
    q.forAll p = true ↔ ∀ a ∈ q.toList, p a = true := by
  simp [Quad.forAll, Quad.toList, and_assoc]

theorem Quad.mem_set {α : Type} (q : Quad α) (n : Nat) (a x : α) (h : x ∈ (q.set n a).toList) :
    x = a ∨ x ∈ q.toList := by
  match n with
  | 0 | 1 | 2 => simp [Quad.set, Quad.toList] at *; rcases h with h | h | h | h <;> simp [h]
  | _ + 3 => simp [Quad.set, Quad.toList] at *; rcases h with h | h | h | h <;> simp [h]

theorem Quad.get_mem {α : Type} (q : Quad α) (n : Nat) : q.get n ∈ q.toList := by
  match n with
  | 0 | 1 | 2 => simp [Quad.get, Quad.toList]
  | _ + 3 => simp [Quad.get, Quad.toList]

/-! ## Reads after writes -/

theorem Table.find_insert {α : Type} (t : Table α) (k j : Nat) (v : α) :
    Table.find (Table.insert k v t) j = if k = j then some v else Table.find t j := by
  induction t with
  | nil => simp [Table.insert, Table.find]
  | cons e t ih =>
    obtain ⟨i, w⟩ := e
    simp only [Table.insert]
    split
    · simp [Table.find]
    · split
      · rename_i h; subst h; simp only [Table.find]; split <;> simp_all
      · simp only [Table.find, ih]
        split
        · rename_i h1 h2 h3; subst h3; simp [h2]
        · rfl

/-- In a store with strictly rising addresses nothing is found below the first. -/
theorem Table.find_below {α : Type} (t : Table α) (j : Nat) (h : ∀ e ∈ t, j < e.1) : Table.find t j = none := by
  induction t with
  | nil => rfl
  | cons e t ih =>
    obtain ⟨i, w⟩ := e
    have hi : j < i := h (i, w) (by simp)
    simp only [Table.find]
    rw [if_neg (by omega)]
    exact ih fun e he => h e (by simp [he])

theorem Table.find_erase {α : Type} (t : Table α) (k j : Nat) (h : t.Pairwise fun a b => a.1 < b.1) :
    Table.find (Table.erase k t) j = if k = j then none else Table.find t j := by
  induction t with
  | nil => simp [Table.erase, Table.find]
  | cons e t ih =>
    obtain ⟨i, w⟩ := e
    rw [List.pairwise_cons] at h
    simp only [Table.erase]
    split
    · rename_i hk
      subst hk
      split
      · rename_i hj; subst hj; exact Table.find_below t k h.1
      · rename_i hj; simp [Table.find, hj]
    · rename_i hk
      simp only [Table.find, ih h.2]
      split
      · rename_i hi; subst hi; simp [hk]
      · rfl

/-- A read after a write: the content written at its address, what was there elsewhere. -/
theorem Table.get_set {α : Type} [DecidableEq α] (d : α) (t : Table α) (k j : Nat) (v : α) (h : Table.wf d t) :
    Table.get d (Table.set d t k v) j = if k = j then v else Table.get d t j := by
  simp only [Table.get, Table.set]
  split
  · rename_i hv
    rw [Table.find_erase t k j h.1]
    split <;> simp_all
  · rw [Table.find_insert]
    split <;> simp_all

/-! ## The canonical form -/

theorem Table.mem_insert {α : Type} (t : Table α) (k : Nat) (v : α) (e : Nat × α) (h : e ∈ Table.insert k v t) :
    e = (k, v) ∨ e ∈ t := by
  induction t with
  | nil => simpa [Table.insert] using h
  | cons f t ih =>
    obtain ⟨i, w⟩ := f
    simp only [Table.insert] at h
    split at h
    · simpa using h
    · split at h
      · simp at h ⊢; rcases h with h | h <;> simp [h]
      · simp at h ⊢
        rcases h with h | h
        · simp [h]
        · rcases ih h with h | h <;> simp [h]

theorem Table.mem_erase {α : Type} (t : Table α) (k : Nat) (e : Nat × α) (h : e ∈ Table.erase k t) : e ∈ t := by
  induction t with
  | nil => simp [Table.erase] at h
  | cons f t ih =>
    obtain ⟨i, w⟩ := f
    simp only [Table.erase] at h
    split at h
    · simp [h]
    · simp at h ⊢
      rcases h with h | h
      · simp [h]
      · simp [ih h]

theorem Table.insert_rising {α : Type} (t : Table α) (k : Nat) (v : α) (h : t.Pairwise fun a b => a.1 < b.1) :
    (Table.insert k v t).Pairwise fun a b => a.1 < b.1 := by
  induction t with
  | nil => simp [Table.insert]
  | cons f t ih =>
    obtain ⟨i, w⟩ := f
    rw [List.pairwise_cons] at h
    simp only [Table.insert]
    split
    · rename_i hk
      refine List.pairwise_cons.2 ⟨fun e he => ?_, List.pairwise_cons.2 h⟩
      simp at he
      rcases he with he | he
      · subst he; exact hk
      · exact Nat.lt_trans hk (h.1 e he)
    · split
      · rename_i hk hi
        subst hi
        exact List.pairwise_cons.2 ⟨h.1, h.2⟩
      · rename_i hk hi
        refine List.pairwise_cons.2 ⟨fun e he => ?_, ih h.2⟩
        rcases Table.mem_insert t k v e he with he | he
        · subst he; simp; omega
        · exact h.1 e he

theorem Table.erase_rising {α : Type} (t : Table α) (k : Nat) (h : t.Pairwise fun a b => a.1 < b.1) :
    (Table.erase k t).Pairwise fun a b => a.1 < b.1 := by
  induction t with
  | nil => simp [Table.erase]
  | cons f t ih =>
    obtain ⟨i, w⟩ := f
    rw [List.pairwise_cons] at h
    simp only [Table.erase]
    split
    · exact h.2
    · exact List.pairwise_cons.2 ⟨fun e he => h.1 e (Table.mem_erase t k e he), ih h.2⟩

/-- A write keeps the canonical form. -/
theorem Table.set_wf {α : Type} [DecidableEq α] (d : α) (t : Table α) (k : Nat) (v : α) (h : Table.wf d t) :
    Table.wf d (Table.set d t k v) := by
  simp only [Table.set]
  split
  · exact ⟨Table.erase_rising t k h.1, fun e he => h.2 e (Table.mem_erase t k e he)⟩
  · rename_i hv
    refine ⟨Table.insert_rising t k v h.1, fun e he => ?_⟩
    rcases Table.mem_insert t k v e he with he | he
    · subst he; exact hv
    · exact h.2 e he

/-- A run of writes keeps the canonical form. -/
theorem Table.setRun_wf {α : Type} [DecidableEq α] (d : α) (t : Table α) (k : Nat) (vs : List α) (h : Table.wf d t) :
    Table.wf d (Table.setRun d t k vs) := by
  induction vs generalizing t k with
  | nil => exact h
  | cons v vs ih => exact ih _ _ (Table.set_wf d t k v h)

/-- A read after a run of writes: the content of the run within it, what was there outside. -/
theorem Table.get_setRun {α : Type} [DecidableEq α] (d : α) (t : Table α) (k j : Nat) (vs : List α)
    (h : Table.wf d t) :
    Table.get d (Table.setRun d t k vs) j =
      if k ≤ j ∧ j < k + vs.length then vs.getD (j - k) d else Table.get d t j := by
  induction vs generalizing t k with
  | nil => simp only [Table.setRun, List.length_nil]; rw [if_neg (by omega)]
  | cons v vs ih =>
    simp only [Table.setRun, List.length_cons]
    rw [ih _ _ (Table.set_wf d t k v h), Table.get_set d t k j v h]
    by_cases hj : k = j
    · subst hj
      rw [if_neg (by omega), if_pos rfl, if_pos (by omega)]
      simp
    · by_cases hin : k + 1 ≤ j ∧ j < k + 1 + vs.length
      · rw [if_pos hin, if_pos (by omega)]
        have : j - k = (j - (k + 1)) + 1 := by omega
        rw [this]
        simp
      · rw [if_neg hin, if_neg hj, if_neg (by omega)]

/-! ## The text store -/

/-- A run of codes written: spec 05 R69. -/
theorem Memory.read_writeRun (m : List Host.Cell) (k a : Nat) (codes : List Byte) (h : Memory.wf m) :
    Memory.read (Memory.writeRun m k codes) a =
      if k ≤ a ∧ a < k + codes.length then codes.getD (a - k) 0 else Memory.read m a :=
  Table.get_setRun Memory.blank m k a codes h

/-- The write of a run, the text store's one write, keeps the canonical form. -/
theorem Memory.writeRun_wf (m : List Host.Cell) (k : Nat) (codes : List Byte) (h : Memory.wf m) :
    Memory.wf (Memory.writeRun m k codes) := Table.setRun_wf Memory.blank m k codes h

/-- The text store after reset has the canonical form. -/
theorem Memory.reset_wf : Memory.wf State.reset.text := by decide

@[simp] theorem Memory.readRun_length (m : List Host.Cell) (a n : Nat) : (Memory.readRun m a n).length = n := by
  induction n generalizing a with
  | zero => rfl
  | succ n ih => simp [Memory.readRun, ih]

end Sys2Proof.Machine
end

