-- ==== Sys2Proof/Laws/Ops.lean ====
section
/-! SUPPORT. What each shared operation can do, said once. -/

namespace Sys2Proof.Machine

open Sys2Proof

/-! ## Numbers -/

theorem clampTo_bounds (lo hi v : Nat) (h : lo ≤ hi) : lo ≤ clampTo lo hi v ∧ clampTo lo hi v ≤ hi := by
  simp only [clampTo]; split <;> (try split) <;> omega

theorem clampTo_zero (hi v : Nat) : clampTo 0 hi v = min v hi := by
  simp only [clampTo]; split <;> (try split) <;> omega

theorem stepToward_bounds (v target step : Nat) :
    min v target ≤ stepToward v target step ∧ stepToward v target step ≤ max v target := by
  simp only [stepToward]; split <;> omega

/-! ## Taking a command -/

theorem takeCommand_of_ok (h : Header) (c : Command) (s t : State) (hc : Command.consistent c = true)
    (hr : runCommand h c s = .ok t) : takeCommand h c s = t := by simp [takeCommand, hc, hr]

theorem takeCommand_of_error (h : Header) (c : Command) (s : State) (r : Reason) (hc : Command.consistent c = true)
    (hr : runCommand h c s = .error r) : takeCommand h c s = refuse h.seq (Command.code c) r s := by
  simp [takeCommand, hc, hr]

theorem takeCommand_of_inconsistent (h : Header) (c : Command) (s : State) (hc : Command.consistent c = false) :
    takeCommand h c s = refuse h.seq (Command.code c) .length s := by simp [takeCommand, hc]

/-- A command dealt with is applied, or refused and nothing else changed. -/
theorem takeCommand_cases (h : Header) (c : Command) (s : State) :
    (Command.consistent c = true ∧ runCommand h c s = .ok (takeCommand h c s)) ∨
      ∃ r, takeCommand h c s = refuse h.seq (Command.code c) r s := by
  simp only [takeCommand]
  split
  · rename_i hc
    cases hr : runCommand h c s with
    | ok t => exact .inl ⟨hc, rfl⟩
    | error r => exact .inr ⟨r, rfl⟩
  · exact .inr ⟨_, rfl⟩

/-- A taken entry is refused, or is the command it spells. -/
theorem takeEntry_cases (e : Entry) (s : State) :
    (∃ r, takeEntry e s = refuse e.seq e.code r s) ∨
      ∃ c, e.damaged = false ∧ readCommand e.code e.payload = .command c ∧
        takeEntry e s = takeCommand (headerOf e) c s := by
  simp only [takeEntry]
  split
  · exact .inl ⟨_, rfl⟩
  · rename_i hd
    cases hr : readCommand e.code e.payload with
    | unknown => exact .inl ⟨_, rfl⟩
    | badLength => exact .inl ⟨_, rfl⟩
    | command c => exact .inr ⟨c, by simpa using hd, rfl, rfl⟩

/-! ## Offering and taking -/

theorem takeOldest_busy (s : State) (h : s.engine.op.isSome = true) : takeOldest s = s := by
  unfold takeOldest
  cases ho : s.engine.op with
  | none => simp [ho] at h
  | some o => rfl

theorem takeUpTo_busy (n : Nat) (s : State) (h : s.engine.op.isSome = true) : takeUpTo n s = s := by
  induction n with
  | zero => rfl
  | succ n ih => simp [takeUpTo, takeOldest_busy s h, ih]

/-- A BUSY engine takes no entry (spec 02 R25). -/
theorem drainQueue_busy (s : State) (h : s.engine.op.isSome = true) : drainQueue s = s := takeUpTo_busy _ s h

theorem takeOldest_idle (s : State) (e : Entry) (rest : List Entry) (ho : s.engine.op = none)
    (hq : s.intake.queue = e :: rest) :
    takeOldest s = settleTaking s.guard.active (removeOldest rest s) (takeEntry e (removeOldest rest s)) := by
  unfold takeOldest; simp [ho, hq]

/-- A removal that takes no cause out leaves the recomputation to the command (spec 11 R174). -/
theorem settleTaking_same (removed s : State) : settleTaking removed.guard.active removed s = s := by
  simp [settleTaking]

/-- The end of a taking is one recomputation or none (spec 11 R174). -/
theorem settleTaking_cases (before : CauseSet) (removed s : State) :
    settleTaking before removed s = s ∨ settleTaking before removed s = recompute s := by
  simp only [settleTaking]; split <;> simp

/-- The clearing of the latch takes an AUTO INTAKE_OVERRUN out of the set and touches nothing else (spec 02 R20, spec 11
R171). -/
theorem clearLatch_frame (s : State) : ∃ a, clearLatch s =
    { s with intake := { s.intake with latch := false }, guard := { s.guard with active := a } } := by
  simp only [clearLatch, markCause]
  split
  · exact ⟨_, rfl⟩
  · exact ⟨_, rfl⟩

/-- A removal touches the queue, the latch and the active cause set (spec 02 R20, R21). -/
theorem removeOldest_frame (rest : List Entry) (s : State) : ∃ b a, removeOldest rest s =
    { s with intake := { s.intake with queue := rest, latch := b }, guard := { s.guard with active := a } } := by
  simp only [removeOldest]
  split
  · obtain ⟨a, h⟩ := clearLatch_frame { s with intake := { s.intake with queue := rest } }
    exact ⟨_, a, h⟩
  · exact ⟨_, _, rfl⟩

/-- An entry offered to a BUSY engine with room and the latch clear waits (spec 02 R18). -/
theorem offer_busy (e : Entry) (s : State) (ho : s.engine.op.isSome = true) (hq : s.intake.queue.length < 16)
    (hl : s.intake.latch = false) : offer e s = appendEntry e s := by
  simp only [offer, hq, hl]
  exact takeOldest_busy (appendEntry e s) ho

/-- An entry offered to a full queue, or with the latch set, is dropped (spec 02 R19). -/
theorem offer_full (e : Entry) (s : State) (h : 16 ≤ s.intake.queue.length ∨ s.intake.latch = true) :
    offer e s = dropPacket s := by
  simp only [offer]
  split
  · rename_i hh; rcases h with h | h
    · omega
    · simp [h] at hh
  · rfl

/-- An entry offered to an IDLE engine with nothing waiting is taken at once (spec 02 R18, R21). -/
theorem offer_ready (e : Entry) (s : State) (ho : s.engine.op = none) (hq : s.intake.queue = [])
    (hl : s.intake.latch = false) : offer e s = takeEntry e s := by
  have hs : removeOldest [] (appendEntry e s) = s := by
    have h1 : (([] : List Entry).isEmpty && (appendEntry e s).intake.latch) = false := by simp [hl]
    simp only [removeOldest, h1]
    show { s with intake := { s.intake with queue := [] } } = s
    rw [← hq]
  have hlen : (appendEntry e s).intake.queue = [e] := by simp [hq]
  simp only [offer, hq, hl]
  show takeOldest (appendEntry e s) = takeEntry e s
  rw [takeOldest_idle (appendEntry e s) e [] ho hlen, hs]
  exact settleTaking_same s _

/-- A command that arrives while the engine is ready is taken at once. -/
theorem submit_ready (h : Header) (c : Command) (s : State) (r : Ready s) : submit h c s = takeCommand h c s := by
  obtain ⟨_, h2, h3, h4⟩ := r
  simp [submit, isReady, h2, h3, h4]

/-- The meaning of a command row at a ready state. -/
theorem whileRunning_submit (h : Header) (c : Command) (s : State) (r : Ready s) :
    whileRunning (submit h c) s = .next (takeCommand h c s) := by
  simp [whileRunning, r.1, submit_ready h c s r]

theorem whileRunning_low (f : State → State) (s : State) (h : s.pins.resetLow = true) :
    whileRunning f s = .next s := by simp [whileRunning, h]

theorem whileRunning_high (f : State → State) (s : State) (h : s.pins.resetLow = false) :
    whileRunning f s = .next (f s) := by simp [whileRunning, h]

/-! ## Completions -/

/-- Takings keep what one taking keeps. -/
theorem drainQueue_keeps (P : State → Prop) (ht : ∀ u, P u → P (takeOldest u)) (s : State) (h : P s) :
    P (drainQueue s) := by
  suffices ∀ n u, P u → P (takeUpTo n u) from this _ s h
  intro n
  induction n with
  | zero => exact fun _ hu => hu
  | succ n ih => exact fun u hu => ih _ (ht u hu)

/-- What comes about among takings is a taking or what the event's own operation does, or nothing after a power-on reset
(spec 02 R26, spec 01 R13, log 3). -/
theorem meanwhile_cases (e : Meanwhile) (s : State) :
    (s.pins.resetLow = true ∧ meanwhile e s = s) ∨
    s.pins.resetLow = false ∧
      (e = .taking ∧ meanwhile e s = takeOldest s ∨
       (∃ p, e = .arrival p ∧ meanwhile e s = arrive p s) ∨
       (∃ fs b, e = .goodFrame fs b ∧ meanwhile e s = frameArrives fs b s) ∨
       e = .frameWindowExpiry ∧ meanwhile e s = windowExpires s ∨
       (∃ order, e = .outputFrameStart order ∧ meanwhile e s = frameStart order s) ∨
       (∃ programme, e = .drawLine programme ∧ meanwhile e s = drawLine programme s) ∨
       e = .powerOnReset ∧ meanwhile e s = powerOnReset s) := by
  cases h : s.pins.resetLow <;> cases e <;> simp [meanwhile, h] <;> exact ⟨_, _, ⟨rfl, rfl⟩, rfl⟩

/-- What one taking and every event keep, a list of them keeps. -/
theorem meanwhileAll_keeps (P : State → Prop) (hm : ∀ e u, P u → P (meanwhile e u)) (es : List Meanwhile) (s : State)
    (h : P s) : P (meanwhileAll es s) := by
  induction es generalizing s with
  | nil => exact h
  | cons e es ih => exact ih _ (hm e s h)

theorem meanwhileAll_append (es fs : List Meanwhile) (s : State) :
    meanwhileAll (es ++ fs) s = meanwhileAll fs (meanwhileAll es s) := by
  induction es generalizing s with
  | nil => rfl
  | cons e es ih => exact ih _

/-- A completion keeps what its write to the glyphs, a taking and every event keep (spec 02 R26). -/
theorem finishOp_keeps (P : State → Prop) (op : InFlight) (among : List Meanwhile) (s : State)
    (ht : ∀ u, P u → P (takeOldest u)) (hm : ∀ e u, P u → P (meanwhile e u))
    (h : P { s with glyphs := completeOp s.glyphs op, engine := { s.engine with op := none } }) :
    P (finishOp op among s) :=
  drainQueue_keeps P ht _ (meanwhileAll_keeps P hm among _ (ht _ h))

/-! ## Carriers -/

theorem allIdle_iff (s : State) : allIdle s = true ↔ ∀ l ∈ s.lanes.toList, l.state = .idle := by
  simp [allIdle, Quad.forAll_iff]

theorem laneOf_setLane_same (s : State) (m : Nat) (l : Lane) : laneOf (setLane s m l) m = l :=
  Quad.get_set_same s.lanes m l

theorem laneOf_setLane_other (s : State) (m n : Nat) (l : Lane) (h : min n 3 ≠ min m 3) :
    laneOf (setLane s m l) n = laneOf s n := Quad.get_set_other s.lanes n m l h

theorem glyphAt_setGlyph (g : GlyphStore) (n j : Nat) (x : Glyph) (h : Table.wf (Glyph.blank g.fill) g.slots) :
    glyphAt (setGlyph g n x) j = if n = j then x else glyphAt g j :=
  Table.get_set (Glyph.blank g.fill) g.slots n j x h

/-- The rows left undefined by a power-on reset in mid-operation; every other row, and the widths, stand (spec 04 R49). -/
theorem undefineRows_frame (k : Nat) (x : Glyph) (first count : Nat) :
    ∃ rows, Glyph.undefineRows k x first count = { x with rows := rows } ∧ ∀ row,
      Table.find rows row =
        if first ≤ row ∧ row < first + count then some (.undefined k) else Table.find x.rows row := by
  induction count generalizing x first with
  | zero => exact ⟨x.rows, rfl, fun row => by rw [if_neg (by omega)]⟩
  | succ n ih =>
    obtain ⟨rows, h, hr⟩ := ih { x with rows := Table.insert first (.undefined k) x.rows } (first + 1)
    refine ⟨rows, h, fun row => ?_⟩
    rw [hr row, Table.find_insert]
    by_cases h1 : first = row
    · subst h1; rw [if_neg (by omega), if_pos rfl, if_pos (by omega)]
    · rw [if_neg h1]
      by_cases h2 : first + 1 ≤ row ∧ row < first + 1 + n
      · rw [if_pos h2, if_pos (by omega)]
      · rw [if_neg h2, if_neg (by omega)]

theorem find_mapSymbols (g : Symbol → Symbol) (t : Table (Option Symbol)) (n : Nat) :
    Table.find (mapSymbols g t) n = (Table.find t n).map (Option.map g) := by
  induction t with
  | nil => rfl
  | cons e t ih =>
    obtain ⟨j, w⟩ := e
    simp only [mapSymbols, List.map_cons, Table.find] at ih ⊢
    split
    · rfl
    · exact ih

/-- A change made to every defined symbol, read at one number. -/
theorem get_mapSymbols (g : Symbol → Symbol) (t : Table (Option Symbol)) (n : Nat) :
    Table.get none (mapSymbols g t) n = (Table.get none t n).map g := by
  simp only [Table.get, find_mapSymbols]
  cases Table.find t n <;> rfl

/-! ## Guard unit and keyer -/

theorem fadeToZero_fields (g : Nat) (k : Keyer) :
    (fadeToZero g k).target = .off ∧ (fadeToZero g k).wish = k.wish ∧ (fadeToZero g k).keyFade = k.keyFade ∧
      (fadeToZero g k).level ≤ k.level := by
  simp only [fadeToZero]; split <;> simp

/-- A slate resolution touches the resolved slate, the slate-fault flag and the missing-glyph counter (spec 11 R177). -/
theorem resolveSlate_frame (s : State) :
    ∃ r f n, resolveSlate s = { s with guard := { s.guard with resolved := r, slateFault := f },
                                       glyphs := { s.glyphs with missing := n } } := by
  simp only [resolveSlate]
  split
  · exact ⟨none, true, s.glyphs.missing, rfl⟩
  · exact ⟨_, false, _, rfl⟩

/-- What the guard unit does on a change touches the slate, the missing-glyph counter and the keyer's level, target and
source (spec 11 R175). -/
theorem actOnChange_frame (a b : GuardState) (s : State) :
    ∃ r f n k, actOnChange a b s = { s with guard := { s.guard with resolved := r, slateFault := f },
                                            glyphs := { s.glyphs with missing := n }, keyer := k } ∧
      k.wish = s.keyer.wish ∧ k.keyFade = s.keyer.keyFade := by
  simp only [actOnChange]
  have hf := fadeToZero_fields s.guard.guardFade s.keyer
  split
  · exact ⟨s.guard.resolved, s.guard.slateFault, s.glyphs.missing, _, rfl, hf.2.1, hf.2.2.1⟩
  · obtain ⟨r, f, n, h⟩ := resolveSlate_frame (sendCut s)
    exact ⟨r, f, n, cutToZero s.keyer, h, rfl, rfl⟩
  · obtain ⟨r, f, n, h⟩ := resolveSlate_frame (sendCut s)
    exact ⟨r, f, n, cutToZero s.keyer, h, rfl, rfl⟩
  · exact ⟨none, s.guard.slateFault, s.glyphs.missing, _, rfl, hf.2.1, hf.2.2.1⟩
  · exact ⟨none, s.guard.slateFault, s.glyphs.missing, _, rfl, rfl, rfl⟩
  · exact ⟨s.guard.resolved, s.guard.slateFault, s.glyphs.missing, s.keyer, rfl, rfl, rfl⟩

/-- A recomputation sets the guard state from the set, and otherwise touches what the acting on the change touches (spec 11
R174, R175). -/
theorem recompute_frame (s : State) :
    ∃ r f n k, recompute s = { s with
        guard := { s.guard with state := guardStateOf s.guard, resolved := r, slateFault := f }
        glyphs := { s.glyphs with missing := n }
        keyer := k } ∧
      k.wish = s.keyer.wish ∧ k.keyFade = s.keyer.keyFade := by
  obtain ⟨r, f, n, k, h, hw, hk⟩ := actOnChange_frame s.guard.state (guardStateOf s.guard)
    { s with guard := { s.guard with state := guardStateOf s.guard } }
  exact ⟨r, f, n, k, h, hw, hk⟩

/-- The guard state depends on the set, the manual action and the three configurations alone. -/
theorem guardStateOf_congr (g h : GuardUnit) (h1 : g.active = h.active) (h2 : g.manualAction = h.manualAction)
    (h3 : g.inputLoss = h.inputLoss) (h4 : g.feedLoss = h.feedLoss) (h5 : g.intakeOverrun = h.intakeOverrun) :
    guardStateOf g = guardStateOf h := by
  simp [guardStateOf, anyClear, allCauses, causeConfig, h1, h2, h3, h4, h5]

/-- After a recomputation the guard state is that of the set (spec 11 R174). -/
theorem recompute_state (s : State) : GuardFollowsCauses (recompute s) := by
  obtain ⟨r, f, n, k, h, _⟩ := recompute_frame s
  rw [GuardFollowsCauses, h]
  exact guardStateOf_congr _ _ rfl rfl rfl rfl rfl

/-- The missing codes of a measurement, counted one by one (spec 04 R55). -/
theorem missingTotal_countP (g : GlyphStore) (f : Nat) (codes : List Byte) :
    missingTotal g f codes = codes.countP fun b => (lookup g f b).isNone := by
  induction codes with
  | nil => rfl
  | cons c cs ih =>
    simp only [missingTotal, ih, List.countP_cons]
    split <;> omega

/-- A slate resolution finds what passes the checks of spec 11 R177, and nothing else. -/
theorem slateParts_iff (s : State) (codes : List Byte) (x : Style) :
    slateParts s = some (codes, x) ↔ ∃ c, s.guard.slate = some c ∧ SlatePasses s c x codes := by
  unfold slateParts SlatePasses
  constructor
  · intro h
    split at h
    · cases h
    · rename_i c hc
      split at h
      · cases h
      · rename_i i hi
        split at h
        · rename_i o n hb
          split at h
          · cases h
          · rename_i hs
            split at h
            · cases h
            · rename_i y hy
              split at h
              · cases h
              · split at h
                · cases h
                · cases h
                  exact ⟨c, hc, i, o, n, hi, hb, hs, hy, by omega, by omega, rfl⟩
        · cases h
  · rintro ⟨c, hc, i, o, n, hi, hb, hs, hy, hl, hn, rfl⟩
    have h1 : ¬x.owner < i.owner := by omega
    have h2 : ¬32768 < o + n := by omega
    simp [hc, hi, hb, hs, hy, h1, h2]

/-- A slate resolution leaves the slate, the flag and the count of spec 11 R177. -/
theorem resolveSlate_resolves (s : State) : ResolvesSlate s s.guard.slate s.glyphs.missing (resolveSlate s) := by
  refine ⟨fun c x codes hc hp => ?_, fun h => ?_⟩
  · have := (slateParts_iff s codes x).2 ⟨c, hc, hp⟩
    simp [resolveSlate, this, countMissing, missingTotal_countP]
  · have : slateParts s = none := by
      match hp : slateParts s with
      | none => rfl
      | some (codes, x) =>
        obtain ⟨c, hc, hp⟩ := (slateParts_iff s codes x).1 hp
        exact (h c x codes hc hp).elim
    simp [resolveSlate, this]
/-- The guard state is NORMAL exactly where the set is empty (spec 11 R174). -/
theorem guardStateOf_normal (g : GuardUnit) : guardStateOf g = .normal ↔ g.active = .empty := by
  simp only [guardStateOf]
  rcases g.active with ⟨a, b, c, d⟩
  cases a <;> cases b <;> cases c <;> cases d <;> simp [CauseSet.isEmpty, CauseSet.empty]

/-- The guard action is CLEAR exactly where a cause of the set has it (spec 11 R174). -/
theorem guardStateOf_clear (g : GuardUnit) (a : Action) (h : guardStateOf g = .guarded a) :
    a = .clear ↔ ∃ k, g.active.has k = true ∧ (causeConfig g k).action = .clear := by
  simp only [guardStateOf] at h
  split at h
  · cases h
  · cases h
    have : anyClear g = true ↔ ∃ k, g.active.has k = true ∧ (causeConfig g k).action = .clear := by
      simp [anyClear, allCauses]
      constructor
      · rintro (h | h | h | h) <;> exact ⟨_, h⟩
      · rintro ⟨k, h⟩; cases k <;> simp_all
    rw [← this]
    cases anyClear g <;> simp

/-- A recomputation on any new set is what spec 11 R174 and R175 say. -/
theorem recompute_acts (s : State) (a : CauseSet) :
    GuardActs s (recompute { s with guard := { s.guard with active := a } }) := by
  have hs := recompute_state { s with guard := { s.guard with active := a } }
  obtain ⟨r, f, n, k, h, _⟩ := recompute_frame { s with guard := { s.guard with active := a } }
  rw [GuardFollowsCauses] at hs
  refine ⟨by rw [hs]; exact guardStateOf_normal _, fun b hb => guardStateOf_clear _ b (hs ▸ hb), by rw [h], by rw [h],
    ?_⟩
  clear hs h
  simp only [recompute]
  generalize guardStateOf _ = after
  let u (g : GuardState) : State := { s with guard := { s.guard with active := a, state := g } }
  have hr : ResolvesSlate s s.guard.slate s.glyphs.missing (resolveSlate (sendCut (u (.guarded .slate)))) :=
    resolveSlate_resolves (sendCut (u (.guarded .slate)))
  obtain ⟨r', f', n', he⟩ := resolveSlate_frame (sendCut (u (.guarded .slate)))
  rcases hg : s.guard.state with _ | (_ | _) <;> rcases after with _ | (_ | _) <;>
    simp only [actOnChange] <;>
    first
    | (rw [show resolveSlate _ = _ from he]
       rw [he] at hr
       simp [u, sendCut, cutToZero]
       exact hr)
    | (simp [sendRelease, withdrawSlate, releaseKey, aimKey]
       done)
    | (simp [sendFade, withdrawSlate, FadesToZero, fadeToZero, ceilDiv]
       split <;> simp [*])
    | (simp [sendRelease, withdrawSlate, releaseKey, aimKey]
       split <;> simp [*])

/-- The onset of a condition makes a cause join with one recomputation, or does nothing (spec 11 R170). -/
theorem causeOnset_cases (k : Cause) (s : State) :
    causeOnset k s = s ∨ causeOnset k s = recompute (markCause k true s) := by
  simp only [causeOnset]; split <;> simp

/-- The end of a condition makes an AUTO cause leave with one recomputation, or does nothing (spec 11 R171). -/
theorem causeEnd_cases (k : Cause) (s : State) :
    causeEnd k s = s ∨ causeEnd k s = recompute (markCause k false s) := by
  simp only [causeEnd]; split <;> simp

/-- The evaluation of FEED_LOSS makes that cause join or leave with one recomputation, or does nothing (spec 11 R168). -/
theorem guardEvaluate_cases (s : State) :
    guardEvaluate s = s ∨ ∃ b, guardEvaluate s = recompute (markCause .feedLoss b s) := by
  simp only [guardEvaluate]
  split
  · rcases causeOnset_cases .feedLoss s with h | h
    · exact .inl h
    · exact .inr ⟨_, h⟩
  · rcases causeEnd_cases .feedLoss s with h | h
    · exact .inl h
    · exact .inr ⟨_, h⟩

/-- A change of the input unit sets the unit and the timing mode, and moves INPUT_LOSS or does nothing else (spec 01 R7,
R8, R14). -/
theorem changeInput_cases (u : InputUnit) (s : State) :
    changeInput u s = putInput u s ∨ ∃ b, changeInput u s = recompute (markCause .inputLoss b (putInput u s)) := by
  simp only [changeInput]
  split
  · rcases causeEnd_cases .inputLoss (putInput u s) with h | h
    · exact .inl h
    · exact .inr ⟨_, h⟩
  · split
    · rcases causeOnset_cases .inputLoss (putInput u s) with h | h
      · exact .inl h
      · exact .inr ⟨_, h⟩
    · exact .inl rfl

/-! ## Output timing and the drawing of a line -/

/-- A followed frame touches the starts still to come, and those in LOCKED alone (spec 01 R7, R8). -/
theorem followFrame_frame (f : Format) (blanking : List Line) (before : InputState) (s : State) :
    ∃ starts, followFrame f blanking before s = { s with timing := { s.timing with starts := starts } } ∧
      (s.input.state ≠ .locked → starts = s.timing.starts) := by
  simp only [followFrame]
  split
  · rename_i h; exact ⟨_, rfl, fun hn => absurd h hn⟩
  · exact ⟨_, rfl, fun _ => rfl⟩

/-- The counting of clipping touches the lanes and the frame set (spec 10 R160). -/
theorem countClipping_frame (line : Nat) (s : State) :
    ∃ ls q, countClipping line s = { s with lanes := ls, renderer := { s.renderer with frameSet := q } } ∧
      q.isSome = s.renderer.frameSet.isSome := by
  simp only [countClipping]
  split
  · exact ⟨s.lanes, s.renderer.frameSet, rfl, rfl⟩
  · rename_i h; exact ⟨_, some _, rfl, by rw [h]; rfl⟩

/-- A line drawn touches the lanes, the frame set and the line drawn last (spec 10 R157, R160 to R162). -/
theorem mixLine_frame (pal : Palette) (fr : OutFrame) (line : Nat) (programme : Option (List Pixel)) (s : State) :
    ∃ ls q, mixLine pal fr line programme s = { s with
        lanes := ls
        renderer := { s.renderer with
          frameSet := q
          lastLine := some (line, renderLine s pal fr line programme) } } ∧
      q.isSome = s.renderer.frameSet.isSome := by
  obtain ⟨ls, q, h, hq⟩ := countClipping_frame line s
  exact ⟨ls, q, by simp only [mixLine, h], hq⟩

/-- The line that an output frame start overtakes is drawn, or there is none (spec 10 R160). -/
theorem overtakeLine_cases (ending : State) (programme : Option (List Pixel)) (s : State) :
    overtakeLine ending programme s = s ∨ ∃ fr, ending.timing.frame = some fr ∧
      ending.renderer.nextLine < activeLines fr.format ∧
      overtakeLine ending programme s = mixLine ending.palette fr ending.renderer.nextLine programme s := by
  simp only [overtakeLine]
  cases h : ending.timing.frame with
  | none => exact .inl rfl
  | some fr =>
    by_cases hl : ending.renderer.nextLine < activeLines fr.format
    · exact .inr ⟨fr, rfl, hl, by simp [hl]⟩
    · exact .inl (by simp [hl])

/-! ## Quote unit -/

/-- The class filter touches the displayed class, the candidate and the agreement count (spec 09 R141). -/
theorem filterClass_frame (n : Nat) (x : Symbol) :
    ∃ d c a, filterClass n x = { x with displayed := d, candidate := c, agree := a } := by
  simp only [filterClass]
  split
  · exact ⟨_, _, _, rfl⟩
  · split
    · exact ⟨x.displayed, _, _, rfl⟩
    · split
      · split
        · exact ⟨_, _, _, rfl⟩
        · exact ⟨x.displayed, x.candidate, _, rfl⟩
      · exact ⟨x.displayed, _, _, rfl⟩

/-! ## Staging -/

/-- A walk examines entries in order: those before its hit fail, and the hit passes (spec 07 R99). -/
theorem walk_hit (s : State) (l : Lane) (ns : List Nat) (c : Candidate) (h : (walk s l ns).hit = some c) :
    (walk s l ns).faults.length < ns.length ∧
      ∃ n, ns[(walk s l ns).faults.length]? = some n ∧ testEntry s l n = .ok c := by
  induction ns with
  | nil => simp [walk] at h
  | cons n ns ih =>
    simp only [walk] at h ⊢
    cases ht : testEntry s l n with
    | ok d => simp [ht] at h ⊢; exact h
    | error e =>
      simp [ht] at h ⊢
      obtain ⟨h1, m, h2, h3⟩ := ih h
      exact ⟨h1, m, h2, h3⟩

/-- A walk without a hit has skipped every entry (spec 07 R99). -/
theorem walk_miss (s : State) (l : Lane) (ns : List Nat) (h : (walk s l ns).hit = none) :
    (walk s l ns).faults.length = ns.length := by
  induction ns with
  | nil => rfl
  | cons n ns ih =>
    simp only [walk] at h ⊢
    cases ht : testEntry s l n with
    | ok d => simp [ht] at h
    | error e => simp [ht] at h ⊢; exact ih h

/-- Recording faults touches the fault counter and the last-fault record (spec 07 R100). -/
theorem recordFaults_frame (l : Lane) (fs : List (Nat × StagingFault)) :
    ∃ n r, recordFaults l fs = { l with faults := n, lastFault := r } ∧ (l.faults ≤ 65535 → n ≤ 65535) := by
  induction fs generalizing l with
  | nil => exact ⟨l.faults, l.lastFault, rfl, id⟩
  | cons f fs ih =>
    obtain ⟨n, r, h, hn⟩ := ih (recordFault l f)
    refine ⟨n, r, h, fun _ => hn ?_⟩
    simp only [recordFault]; omega

/-- A lane that is not RUNNING, or whose slot holds an entry, makes no attempt (spec 07 R98). -/
theorem refill_idle (s : State) (l : Lane) (h : l.state ≠ .running ∨ l.slot.isSome = true) : refill s l = (l, 0) := by
  simp only [refill]
  rw [if_pos h]

/-- An attempt at a refill leaves the on-screen list (spec 07 R98). -/
theorem refill_screen (s : State) (l : Lane) : (refill s l).1.screen = l.screen := by
  have base : ∀ k : Lane, (refillBase s k).1.screen = k.screen := by
    intro k
    obtain ⟨n, r, h, -⟩ := recordFaults_frame k (walk s k (k.base.drop k.cursor ++ k.base.take k.cursor)).faults
    obtain ⟨n', r', h', -⟩ := recordFaults_frame k (walk s k (k.base.drop k.cursor)).faults
    simp only [refillBase, h, h']
    repeat' split
    all_goals rfl
  have contexts : ∀ (is : List Interjection) (k : Lane), (refillContexts s k is).1.screen = k.screen := by
    intro is
    induction is with
    | nil => exact fun k => base _
    | cons i is ih =>
      intro k
      obtain ⟨n, r, h, -⟩ := recordFaults_frame k (walk s k (i.items.drop i.cursor)).faults
      simp only [refillContexts]
      split
      · rw [ih, h]
      · rw [h]; split <;> rfl
  simp only [refill]
  repeat' split
  · rfl
  · rfl
  · exact contexts _ _

/-- With fuel for every free place, placement and refill in turn go on until no entry is to be placed (spec 07 R112). -/
theorem placeLoop_places (s : State) (fuel : Nat) (l : Lane) (h : 16 ≤ l.screen.length + fuel) :
    Places s l (placeLoop s fuel l).2 (placeLoop s fuel l).1 := by
  induction fuel generalizing l with
  | zero => exact .ends l fun hp => by have := hp.2.2; omega
  | succ fuel ih =>
    cases he : l.slot with
    | none =>
      have hp : ¬Placeable l := by simp [Placeable, he]
      simpa only [placeLoop, he] using .ends l hp
    | some e =>
      by_cases hp : Placeable l
      · have hlen : 16 ≤ (refill s (placeEntry l e)).1.screen.length + fuel := by
          rw [refill_screen]
          simp only [placeEntry, List.length_append, List.length_singleton]
          omega
        have hc : tail l ≤ rightEdge l ∧ l.screen.length < 16 := hp.2
        simp only [placeLoop, he, if_pos hc]
        exact .places l _ _ e _ _ hp he rfl (ih _ hlen)
      · have hc : ¬(tail l ≤ rightEdge l ∧ l.screen.length < 16) := fun h => hp ⟨by simp [he], h⟩
        simpa only [placeLoop, he, if_neg hc] using .ends l hp

end Sys2Proof.Machine
end

