-- ==== Sys2Proof/Laws/Render.lean ====
section
/-! SUPPORT. The layers of a line and the rows of coverage, read at one place. -/

namespace Sys2Proof.Machine

open Sys2Proof

/-! ## Layers -/

@[simp] theorem fillLayer_get (c : Colour) (α : Nat) (lo hi : Int) (x : Nat) (px : List Pixel) (i : Nat) :
    (fillLayer c α lo hi x px)[i]? =
      px[i]?.map fun p => if lo ≤ ((x + i : Nat) : Int) ∧ ((x + i : Nat) : Int) < hi then mixPixel p c α else p := by
  induction px generalizing x i with
  | nil => simp [fillLayer]
  | cons p ps ih =>
    cases i with
    | zero => simp [fillLayer]
    | succ i => rw [fillLayer, List.getElem?_cons_succ, ih, Nat.add_right_comm x 1 i, List.getElem?_cons_succ]; rfl

@[simp] theorem fillLayer_length (c : Colour) (α : Nat) (lo hi : Int) (x : Nat) (px : List Pixel) :
    (fillLayer c α lo hi x px).length = px.length := by
  induction px generalizing x with
  | nil => rfl
  | cons p ps ih => simp [fillLayer, ih]

/-- One pixel of a text layer: `x` is its picture column (spec 10 R158, R162). -/
def textPixel (pal : Palette) (k : Nat) (row : List (Nat × Nat)) (origin lo hi : Int) (x : Nat) (p : Pixel) : Pixel :=
  if lo ≤ (x : Int) ∧ (x : Int) < hi ∧ 0 ≤ (x : Int) - origin then
    match row[((x : Int) - origin).toNat]? with
    | some (c, i) => if 0 < c then mixPixel p (displayedColour pal i) (alphaOf (textOpacity c) k) else p
    | none => p
  else p

@[simp] theorem textLayer_get (pal : Palette) (k : Nat) (row : List (Nat × Nat)) (origin lo hi : Int) (x : Nat)
    (px : List Pixel) (i : Nat) :
    (textLayer pal k row origin lo hi x px)[i]? = px[i]?.map (textPixel pal k row origin lo hi (x + i)) := by
  induction px generalizing x i with
  | nil => simp [textLayer]
  | cons p ps ih =>
    cases i with
    | zero => rfl
    | succ i => rw [textLayer, List.getElem?_cons_succ, ih, Nat.add_right_comm x 1 i, List.getElem?_cons_succ]; rfl

@[simp] theorem textLayer_length (pal : Palette) (k : Nat) (row : List (Nat × Nat)) (origin lo hi : Int) (x : Nat)
    (px : List Pixel) : (textLayer pal k row origin lo hi x px).length = px.length := by
  induction px generalizing x with
  | nil => rfl
  | cons p ps ih => simp [textLayer, ih]

/-- Layers that each act pixel by pixel, one after another, act pixel by pixel. -/
theorem foldl_layers {α : Type} (layer : List Pixel → α → List Pixel) (point : Nat → Pixel → α → Pixel)
    (h : ∀ px a i, (layer px a)[i]? = px[i]?.map fun p => point i p a) (as : List α) (px : List Pixel) (i : Nat) :
    (as.foldl layer px)[i]? = px[i]?.map fun p => as.foldl (point i) p := by
  induction as generalizing px with
  | nil => simp
  | cons a as ih => simp [ih, h, Option.map_map, Function.comp_def]

/-! ## The programme -/

@[simp] theorem fitLine_length (n : Nat) (ps : List Pixel) : (fitLine n ps).length = n := by
  induction n generalizing ps with
  | zero => rfl
  | succ n ih => cases ps <;> simp [fitLine, ih]

theorem fitLine_get (n : Nat) (ps : List Pixel) (i : Nat) (h : i < n) :
    (fitLine n ps)[i]? = some (ps[i]?.getD blackPixel) := by
  induction n generalizing ps i with
  | zero => omega
  | succ n ih =>
    cases ps <;> cases i <;> simp [fitLine]
    · rw [ih [] _ (by omega)]; simp
    · rw [ih _ _ (by omega)]

/-! ## Rows of coverage -/

@[simp] theorem fitCells_length (n last : Nat) (cs : List (Nat × Nat)) : (fitCells n last cs).length = n := by
  induction n generalizing last cs with
  | zero => rfl
  | succ n ih => cases cs <;> simp [fitCells, ih]

@[simp] theorem clipCells_get (clip j : Nat) (cs : List (Nat × Nat)) (i : Nat) :
    (clipCells clip j cs)[i]? = cs[i]?.map fun c => (if clip ≤ j + i then 0 else c.1, c.2) := by
  induction cs generalizing j i with
  | nil => simp [clipCells]
  | cons c cs ih =>
    cases i with
    | zero => simp [clipCells]
    | succ i => rw [clipCells, List.getElem?_cons_succ, ih, Nat.add_right_comm j 1 i, List.getElem?_cons_succ]; rfl

@[simp] theorem clipCells_length (clip j : Nat) (cs : List (Nat × Nat)) : (clipCells clip j cs).length = cs.length := by
  induction cs generalizing j with
  | nil => rfl
  | cons c cs ih => simp [clipCells, ih]

@[simp] theorem shiftCells_length (p : Nat) (before : Nat × Nat) (cs : List (Nat × Nat)) :
    (shiftCells p before cs).length = cs.length + 1 := by
  induction cs generalizing before with
  | nil => rfl
  | cons c cs ih => simp [shiftCells, ih]

/-- A row has one column more than its slot (spec 10 R158). -/
theorem textRow_length (g : GlyphStore) (font : Nat) (row : Option Nat) (codes : List (Byte × Nat))
    (start width clip phase : Nat) : (textRow g font row codes start width clip phase).length = width + 1 := by
  simp [textRow]

end Sys2Proof.Machine
end

