-- ==== Sys2Proof/Tests/Slice0.lean ====
section
/-! SUPPORT. The model's own tests: what WellFormed refuses, the worked examples of the specification, and for every
statement with hypotheses a state and operands that meet them. -/

namespace Sys2Proof.Tests

open Sys2Proof Sys2Proof.Machine

-- The tests are elaborated one after another: each waits for the kernel, and all of them at once would hold a thread each.
set_option Elab.async false

/-! ## Helpers -/

/-- A header by the device route with a level and sequence 7. -/
def dev (level : Nat) : Header := { route := .device, level := level, seq := 7 }

/-- What a predicate says of the next state, and false of a stop. -/
def after (o : Host.Outcome State Fault Refusal) (p : State → Bool) : Bool :=
  match o with
  | .next t => p t
  | _ => false

/-- The reason of the last refusal. -/
def reasonOf (s : State) : Option Reason := s.engine.last.map RefusalRecord.reason

/-- The meaning of a command leaves exactly one more refusal, with this reason. -/
def refusesWith (i : Instr) (s : State) (r : Reason) : Bool :=
  after (exec i s) fun t => t.engine.refusals == s.engine.refusals + 1 && reasonOf t == some r

/-- A font of two glyph slots, 8 lines high, with default glyph ABSENT. -/
def font2 : FontDef := { base := 0, count := 2, height := 8, baseline := 6, defaultGlyph := none }

/-- A style of owner level 2 in font 3 with paddings of 150. -/
def style150 : Style :=
  { owner := 2, font := 3, textColour := 1, bandColour := 20, bandOpacity := 192, padLeft := 150, padRight := 150,
    reserve := 0, flashColour := 3 }

/-- A text item of one code at offset 0, null selector, owner level 1. -/
def textItem : Item := { owner := 1, selector := 1, body := .text 0 1 }

/-- A symbol of owner level 1 with two decimals and reference price 182.40. -/
def qlm : Symbol :=
  { owner := 1, text := [0x51, 0x4C, 0x4D], decimals := 2, inverse := false, reference := 18240, last := none,
    change := 0, percent := some 0, computed := .flat, displayed := .flat, candidate := none, agree := 0,
    halted := false, flash := 0, age := 0, stale := false }

/-- The part after reset with symbol 17 defined as given. -/
def withSymbol (x : Symbol) : State :=
  let q : QuoteUnit := {
    QuoteUnit.initial with
    symbols := [(17, some x)]
    classFilter := 2
    movement := [(0, ⟨12, some 0x80, 30⟩), (3, ⟨13, some 0x81, 60⟩)] }
  { State.reset with quote := q }

/-- The part after reset with items and style 1, and lane 0 as given. -/
def withLane (items : Table (Option Item)) (l : Lane) : State :=
  { State.reset with items := items, styles := [(1, some style150)], lanes := State.reset.lanes.set 0 l,
                     glyphs := GlyphStore.initial .zero }

/-- A lane RUNNING in LOOP with a base list and a cursor. -/
def running (base : List Nat) (cursor : Nat) : Lane :=
  { Lane.initial with state := .running, base := base, cursor := cursor }

/-- An entry of slot width 300 staged from an item without a list position. -/
def staged300 : Staged :=
  { item := textItem, itemNumber := 500, style := style150, selector := 1, width := 300, position := none,
    clipped := false }

/-- The part with an operation in flight. -/
def busy : State := { State.reset with engine := { op := some (.fontClear 0 0 1), refusals := 0, last := none } }

/-- The part guarded for INPUT_LOSS with action CLEAR. -/
def guarded : State :=
  let g : GuardUnit := {
    GuardUnit.initial with
    state := .guarded .clear
    active := { CauseSet.empty with inputLoss := true } }
  { State.reset with guard := g }

/-- The part with the input unit in a state. -/
def withInput (u : InputUnit) : State :=
  { State.reset with input := u, timing := { OutputTiming.initial with mode := modeOf u.state } }

/-! ## WellFormed: an ill-formed term for each check -/

theorem test_wf_level_4_refused : wellFormed (.keyOn (dev 4)) = false := by decide

theorem test_wf_level_3_accepted : wellFormed (.keyOn (dev 3)) = true := by decide

theorem test_wf_act_twice_refused : wellFormed (.outputFrameStart [.quote, .guard, .quote]) = false := by decide

theorem test_wf_snapshot_before_its_lane_refused : wellFormed (.resetRelease true [.snapshot 2, .lane 2]) = false := by
  decide

theorem test_wf_default_order_accepted : wellFormed (.outputFrameStart defaultOrder) = true := by decide

theorem test_wf_frame_without_start_refused :
    wellFormed (.goodFrame { formatStructure .f1080p50 with completeStart := false } ⟨[], 0⟩) = false := by decide

theorem test_wf_frame_of_no_format_refused :
    wellFormed (.goodFrame { formatStructure .f1080p50 with samplesPerLine := 2200 } ⟨[], 0⟩) = false := by decide

theorem test_wf_more_handed_than_delivered_refused :
    wellFormed (.goodFrame (formatStructure .f1080p50) ⟨[[], [0x19A, 0x14C]], 2⟩) = false ∧
      wellFormed (.goodFrame (formatStructure .f1080p50) ⟨[[], [0x19A, 0x14C]], 1⟩) = true := by decide

theorem test_wf_two_lines_in_drawing_refused :
    wellFormed (.outputFrameStart [.line none, .lane 0, .line none]) = false ∧
      wellFormed (.outputFrameStart [.lane 0, .line none]) = true := by decide

theorem test_wf_line_in_drawing_of_pixel_1024_refused :
    wellFormed (.outputFrameStart [.line (some [⟨64, 512, 1024⟩])]) = false := by decide

theorem test_wf_packet_too_long_refused :
    wellFormed (.packetArrival ⟨.control, packetBytes 0 0 0x60 7 [] ++ [0], false⟩) = false := by decide

theorem test_wf_whole_packet_marked_truncated_refused :
    wellFormed (.packetArrival ⟨.control, packetBytes 0 0 0x60 7 [], true⟩) = false := by decide

theorem test_wf_undamaged_entry_refused :
    wellFormed (.damagedEntry ⟨.device, 0, 0x60, 7, [], false⟩) = false := by decide

theorem test_wf_entry_payload_241_refused :
    wellFormed (.damagedEntry ⟨.device, 0, 0x60, 7, List.replicate 241 0, true⟩) = false := by
  decide +kernel

theorem test_wf_recognised_code_refused : wellFormed (.unknownCommand (dev 0) 0x60 []) = false := by decide

theorem test_wf_unknown_payload_241_refused :
    wellFormed (.unknownCommand (dev 0) 0x00 (List.replicate 241 0)) = false := by decide +kernel

theorem test_wf_counts_of_none_refused :
    wellFormed (.paletteWrite (dev 1) 0 []) = false ∧ wellFormed (.glyphRows (dev 1) ⟨0, 0, 0, []⟩) = false ∧
      wellFormed (.codeMapWrite (dev 1) ⟨0, 0, []⟩) = false ∧ wellFormed (.textWrite (dev 1) 0 []) = false ∧
      wellFormed (.playlistAppend (dev 1) 0 []) = false ∧ wellFormed (.interject (dev 1) 0 []) = false ∧
      wellFormed (.quoteBatch (dev 1) []) = false := by decide

theorem test_wf_counts_too_large_refused :
    wellFormed (.paletteWrite (dev 1) 0 (List.replicate 33 ⟨0, 0, 0⟩)) = false ∧
      wellFormed (.glyphRows (dev 1) ⟨0, 0, 0, List.replicate 8 (List.replicate 32 0)⟩) = false ∧
      wellFormed (.codeMapWrite (dev 1) ⟨0, 0, List.replicate 113 0⟩) = false ∧
      wellFormed (.textWrite (dev 1) 0 (List.replicate 239 0)) = false ∧
      wellFormed (.playlistWrite (dev 1) 0 (List.replicate 117 0)) = false ∧
      wellFormed (.playlistAppend (dev 1) 0 (List.replicate 117 0)) = false ∧
      wellFormed (.interject (dev 1) 0 (List.replicate 9 0)) = false ∧
      wellFormed (.quoteBatch (dev 1) (List.replicate 21 ⟨0, 0⟩)) = false := by decide +kernel

theorem test_wf_empty_playlist_accepted : wellFormed (.playlistWrite (dev 1) 0 []) = true := by decide

theorem test_wf_short_glyph_row_refused :
    wellFormed (.glyphRows (dev 1) ⟨0, 0, 0, [List.replicate 31 0]⟩) = false := by decide

theorem test_wf_seven_code_places_refused :
    wellFormed (.symbolDefine (dev 1) ⟨17, 1, 3, List.replicate 7 0, 2, 0, 0⟩) = false := by decide

theorem test_wf_among_takings_refused :
    wellFormed (.glyphRowsCompletion [.taking, .arrival ⟨.control, packetBytes 0 0 0x60 7 [], true⟩]) = false ∧
      wellFormed (.fontClearCompletion [.outputFrameStart [.quote, .quote]]) = false ∧
      wellFormed (.fontClearCompletion [.goodFrame (formatStructure .f720p50) ⟨[], 1⟩]) = false ∧
      wellFormed (.glyphRowsCompletion [.drawLine (some [⟨1024, 64, 64⟩])]) = false ∧
      wellFormed (.glyphRowsCompletion [.taking, .arrival (packetOf 0 (dev 0) .keyOn)]) = true := by decide

theorem test_wf_pixel_1024_refused : wellFormed (.drawLine (some [⟨64, 1024, 512⟩])) = false := by decide

/-! ## Worked examples: shared operations -/

/-- Spec 07 sections 7.9 and 7.10. -/
theorem test_increments :
    [180, 30, 60, 150].map (fun v => incrementOf v .f1080p5994) = [196805, 32801, 65602, 164004] ∧
      incrementOf 180 .f1080p50 = 235930 := by decide

/-- Spec 09 sections 9.10 and 9.14. -/
theorem test_seconds_in_frames :
    [1, 5, 10, 600].map (framesOf .f1080p5994) = [60, 300, 599, 35964] ∧ framesOf .f720p50 10 = 500 := by decide

/-- Spec 09 section 9.12, and its example of a reference price of 1. -/
theorem test_percent_changes :
    [18677, 18690, 17600].map (fun (l : Nat) => percentOf (changeOf (some l) 18240) 18240) =
        [some 240, some 247, some (-351)] ∧
      percentOf (changeOf (some 99999999) 1) 1 = some 99999 ∧ percentOf 250 0 = none := by decide

/-- Spec 09 section 9.12, the third row: FLAT has no arrow. -/
theorem test_quotation_text :
    (formatQuote (withSymbol qlm).quote { qlm with last := some 18677, change := 437, percent := some 240 }
      ⟨true, true, true, true⟩ style150 0).map (fun c => c.1.toNat) =
    [0x51, 0x4C, 0x4D, 0x20, 0x31, 0x38, 0x36, 0x2E, 0x37, 0x37, 0x20, 0x2B, 0x34, 0x2E, 0x33, 0x37, 0x20, 0x2B, 0x32,
     0x2E, 0x34, 0x30, 0x25] := by decide +kernel

/-- Spec 09 section 9.12: the symbol "XRT" with reference price 0, no percent change and the up arrow. -/
theorem test_quotation_without_percent :
    (formatQuote (withSymbol qlm).quote
      { qlm with text := [0x58, 0x52, 0x54], reference := 0, last := some 250, change := 250, percent := none,
                 displayed := .upSmall }
      ⟨true, true, true, true⟩ style150 0).map (fun c => c.1.toNat) =
    [0x58, 0x52, 0x54, 0x20, 0x32, 0x2E, 0x35, 0x30, 0x20, 0x80, 0x20, 0x2B, 0x32, 0x2E, 0x35, 0x30] := by
  decide +kernel

/-- Spec 10 section 10.7: a row shifted by phase 5. -/
theorem test_phase_shift :
    (shiftCells 5 (0, 0) [(4, 1), (15, 1), (15, 1), (8, 1)]).map Prod.fst = [2, 8, 15, 12, 5] := by decide

/-- A store whose font 0 shows, on code 41h, a glyph of two columns of coverage 15 and 8. -/
def store10 : GlyphStore := {
  GlyphStore.initial .zero with
  fonts := (Quad.all none).set 0 (some font2)
  maps := (Quad.all []).set 0 [(0x41, some 0)]
  slots := [(0, { fill := .zero, widths := some (2, 2), rows := [(0, .written (15 :: 8 :: List.replicate 62 0))] })] }

/-- The snapshot of spec 10 section 10.7: band of entry 10, one entry at phase 5 on a background of entry 20. -/
def snapshot10 : Snapshot :=
  let style : Style := {
    style150 with
    font := 0
    padLeft := 0
    padRight := 0 }
  { top := 0, height := 8, left := 0, width := 64, staleColour := 0, selector := 2, band := some (10, 256),
    entries := [{ number := 0, position := 0, phase := 5, width := 2, style := style, clipped := false,
                  shown := .text [0x41] }] }

/-- Spec 10 section 10.7: the one pixel at key levels 256 and 128. -/
theorem test_one_pixel :
    let pal : Palette :=
      { written := [], displayed := [(1, ⟨940, 512, 512⟩), (10, ⟨150, 512, 512⟩), (20, ⟨400, 512, 512⟩)] }
    let p : Pixel := ⟨500, 512, 512⟩
    let y (k : Nat) := ((laneLayers store10 pal k 0 [p, p] snapshot10).map Pixel.y)[1]?
    y 256 = some 820 ∧ y 128 = some 587 := by decide +kernel

/-- Spec 10 section 10.10: the step up to 256, the reversal, and the guard's fade. -/
theorem test_fade_steps :
    (fadeStep { Keyer.initial with level := 252, target := .on }).level = 256 ∧
      (fadeStep { Keyer.initial with level := 108, target := .off }).level = 90 ∧
      (fadeStep { Keyer.initial with level := 256, target := .off, source := .guard 32 }).level = 224 := by decide

/-- Spec 04 section 4.9: fonts with a default glyph and without. -/
theorem test_lookup_and_default :
    lookup { store10 with fonts := .all (some { font2 with defaultGlyph := some 1 }) } 0 0xC8 = some 1 ∧
      lookup store10 0 0xC8 = none ∧ advanceTotal store10 0 [0x41, 0xC8] = 2 ∧
      missingTotal store10 0 [0x41, 0xC8] = 1 := by decide

/-- Spec 09 section 9.14: the limits recomputed at a change to 720p50, and the ages of its table. -/
theorem test_staleness :
    (ageSymbol 599 { qlm with age := 598 }).stale = true ∧ (ageSymbol 599 { qlm with age := 398 }).stale = false ∧
      (quoteFrame .f720p50 true { QuoteUnit.initial with staleLimit := 10, feedTimeout := 5 }).staleFrames = 500 ∧
      (quoteFrame .f720p50 true { QuoteUnit.initial with staleLimit := 10, feedTimeout := 5 }).feedFrames = 250 := by
  decide

/-- Spec 01 R6, R11: a control packet for address 3 between two other samples is found and blanked out, one for another
address is found and passes. -/
theorem test_carriage_line :
    let line (a : Byte) : Line := [0x200] ++ [0x19A, 0x14C] ++
      (packetBytes a 1 0x60 9 []).map (fun b => BitVec.ofNat 10 (256 + b.toNat)) ++ [0x201]
    (packetsOfLine (line 3)).map FoundAt.packet = [⟨.control, packetBytes 3 1 0x60 9 [], false⟩] ∧
      outgoingCarriage 3 (line 3) = [some 0x200] ++ List.replicate 8 none ++ [some 0x201] ∧
      outgoingCarriage 3 (line 4) = (line 4).map some := by decide +kernel

/-- Spec 01 R6: a packet whose stated length runs past the end of the line is truncated. -/
theorem test_truncated_packet :
    (packetsOfLine [0x19A, 0x14C, 0x103, 0x101, 0x122, 0x109, 0x105, 0x141]).map FoundAt.packet =
      [⟨.control, [0x03, 0x01, 0x22, 0x09, 0x05, 0x41], true⟩] := by decide +kernel

/-- Spec 12 section 12.5: the status report right after reset, but for the twelve bytes of each lane. -/
theorem test_status_report :
    let p := statusPayload 0x12345 (readHead State.reset) State.reset.lanes
    p.length = 72 ∧ p.take 11 = [0x23, 0x45, 0, 0xFF, 0, 0xFF, 0, 0, 0, 0, 0] ∧
      (p.drop 11).take 12 = [0, 0, 0, 0, 0, 0, 0, 0, 0, 0xFF, 0xFF, 0] := by decide +kernel

/-- A lane of `marking` shows an entry of slot width 100 in a style whose paddings alone take 300. -/
def clippedLane : Lane :=
  { Lane.initial with state := .running, screen := [{ entry := { staged300 with width := 100 }, x := 0, number := 4 }] }

/-- A part held by its guard, at line 0 of a frame that shows the list of lane 0. -/
def marking : State :=
  let fr : OutFrame := { format := .f720p60, following := false, blanking := [] }
  let s : State := {
    withLane [] clippedLane with
    guard := guarded.guard
    timing := { OutputTiming.initial with frame := some fr } }
  { s with renderer := { s.renderer with frameSet := some ((Quad.all .blank).set 0 (snapshotOf s clippedLane)) } }

/-- What lane 0 holds after an output frame start in an order, the start after which one more line is drawn: the clipped
marks on the list, the marks in the new snapshot, and the clipped counter. -/
def marksAfter (order : List FrameAct) : List Bool × Option (List Bool) × Counter :=
  let t := drawLine none (frameStart order marking)
  ((laneOf t 0).screen.map fun p => p.entry.clipped, t.renderer.frameSet.map fun q => q.q0.entries.map SnapEntry.clipped,
    (laneOf t 0).clipped)

/-- Spec 10 R160: the line in drawing marks the list before the snapshot, or after it; either way the entry counts once. -/
theorem test_marks_in_either_order :
    marksAfter [.line none] = ([true], some [true], 1) ∧
      marksAfter [.lane 0, .snapshot 0, .line none] = ([true], some [false], 1) := by decide +kernel

/-- Spec 11 R174: the taking of GUARD_SET that empties the queue takes an AUTO INTAKE_OVERRUN out of the set and puts MANUAL
in; recomputed once, the part stays GUARDED CLEAR and the fade under way is not begun anew. -/
theorem test_one_recomputation_in_a_taking :
    let s := { busy with
      intake := ⟨[entryOf (dev 0) (.guardSet 0 0)], true, 0, none⟩
      keyer := ⟨200, .off, .on, .guard 32, 15⟩
      guard := { GuardUnit.initial with
        intakeOverrun := ⟨true, false, .clear⟩, active := { CauseSet.empty with intakeOverrun := true },
        state := .guarded .clear } }
    after (exec .fontClearCompletion s) (fun t =>
      t.guard.active == { CauseSet.empty with manual := true } && t.guard.state == .guarded .clear &&
        t.keyer == s.keyer && !t.intake.latch) = true := by decide +kernel

/-- Spec 04 R49: a power-on reset in mid-operation keeps the slot's widths and its other rows. -/
theorem test_power_on_keeps_the_other_rows :
    let t := powerOnReset { State.reset with
      glyphs := store10
      engine := ⟨some (.glyphRows ⟨0, 0, 7, [0xF8 :: List.replicate 31 0]⟩ 0), 0, none⟩ }
    (glyphAt t.glyphs 0).rows.map Prod.fst = [0, 7] ∧ advanceOf t.glyphs 0 = 2 ∧ bitmapOf t.glyphs 0 = 2 ∧ coverageOf t.glyphs 0 0 1 = 8 ∧
      coverageOf t.glyphs 0 8 1 = 0 := by decide +kernel

/-! ## Worked examples: one step of a command or event -/

/-- Spec 01 section 1.7: H1 arrives in NO_SIGNAL; the miss count is 0 and the locked format kept. -/
theorem test_good_frame_begins_acquisition :
    after (exec (.goodFrame (formatStructure .f1080p5994) ⟨[], 0⟩)
        (withInput { InputUnit.initial with lockedFormat := some .f1080p50 })) (fun t =>
      t.input == ⟨.acquiring, some .f1080p50, some .f1080p5994, 1, 0, 3⟩ && t.timing.mode == .flywheel) = true := by
  decide

/-- Spec 01 section 1.7: H2 locks, and the output format changes at the next output frame start alone. The carriage line is
kept for that start (R10, R11), its packet not yet arrived (log 4). -/
theorem test_good_frame_locks :
    let line : Line := [0x19A, 0x14C] ++ (packetBytes 0 0 0x60 9 []).map fun b => BitVec.ofNat 10 (256 + b.toNat)
    after (exec (.goodFrame (formatStructure .f1080p5994) ⟨[line], 0⟩)
        (withInput ⟨.acquiring, some .f1080p50, some .f1080p5994, 1, 0, 3⟩)) (fun t =>
      t.input == ⟨.locked, some .f1080p5994, none, 0, 0, 3⟩ && t.timing.mode == .following &&
        t.timing.starts == [⟨.f1080p5994, [List.replicate 8 none]⟩] && t.timing.counter == 0 &&
        t.keyer.wish == .off) = true := by decide +kernel

/-- Spec 01 section 1.7: the first expiry goes to HOLDOVER and the output flywheels. -/
theorem test_expiry_to_holdover :
    after (exec .frameWindowExpiry (withInput ⟨.locked, some .f1080p50, none, 0, 0, 3⟩)) (fun t =>
      t.input == ⟨.holdover, some .f1080p50, none, 0, 1, 3⟩ && t.timing.mode == .flywheel &&
        t.guard.state == .normal) = true := by decide

/-- Spec 01 R8 to R10: the counter wraps, and of two followed starts the first is made, with its own lines. -/
theorem test_frame_start_takes_the_first_followed_start :
    let starts : List FollowedStart := [⟨.f720p50, [[some 1]]⟩, ⟨.f720p60, [[some 2]]⟩]
    after (exec (.outputFrameStart [])
        { withInput ⟨.locked, some .f720p50, none, 0, 0, 3⟩ with
          timing := { OutputTiming.initial with mode := .following, counter := 0xFFFFFFFF, starts := starts } }) (fun t =>
      t.timing.counter == 0 && t.timing.starts == [⟨.f720p60, [[some 2]]⟩] &&
        t.timing.frame == some { format := .f720p50, following := true, blanking := [[some 1]] }) = true := by
  decide +kernel

/-- Spec 07 section 7.9: at counter 4108 A lies at 104,574,180 and B is placed at 125,807,844. -/
theorem test_frame_start_places_the_next_entry :
    let l : Lane := {
      Lane.initial with
      state := .running
      config := { LaneConfig.initial with gap := 24 }
      slot := some { staged300 with itemNumber := 501 }
      speed := 180
      target := 180
      screen := [{ entry := staged300, x := 125829120 - 107 * 196805, number := 0 }]
      nextNumber := 1 }
    after (exec (.outputFrameStart []) (withLane [] l)) (fun t =>
      (laneOf t 0).screen.map Placed.x == [104574180, 125807844] &&
        (t.renderer.frameSet.map fun q => q.q0.entries.map fun e => (e.position, e.phase)) ==
          some [(1595, 5), (1919, 5)]) = true := by decide +kernel

/-- Spec 02 section 2.8: P18 meets a full queue. -/
theorem test_arrival_at_a_full_queue :
    after (exec (.packetArrival (packetOf 0 (dev 0) .keyOn))
        { busy with intake := ⟨List.replicate 16 (entryOf (dev 0) .keyOn), false, 1041, none⟩ }) (fun t =>
      t.intake.latch && t.intake.dropped == 1042 && t.intake.queue.length == 16) = true := by decide +kernel

/-- Spec 02 section 2.8: P21 comes while entries remain and the latch is set, and is dropped though there is room; P22 comes
after the taking that empties the queue, and is appended and taken. -/
theorem test_arrivals_among_takings :
    let s := { busy with
      glyphs := store10
      intake := ⟨List.replicate 3 (entryOf (dev 0) .keyOn), true, 1044, none⟩ }
    let p := packetOf 0 (dev 0) .keyOff
    after (exec (.fontClearCompletion [.arrival p]) s) (fun t =>
        t.intake == ⟨[], false, 1045, none⟩ && t.keyer.wish == .on) = true ∧
      after (exec (.fontClearCompletion [.taking, .taking, .arrival p]) s) (fun t =>
        t.intake == ⟨[], false, 1044, none⟩ && t.keyer.wish == .off) = true ∧
      after (exec (.fontClearCompletion [.outputFrameStart []]) s) (fun t =>
        (t.report.lines.map fun l => (l.status.drop 59).take 2) == some [2, 1]) = true := by decide +kernel

/-- Spec 02 section 2.8: the taking of P17 clears the latch. -/
theorem test_completion_takes_what_waits :
    after (exec .fontClearCompletion
        { busy with intake := ⟨[entryOf (dev 0) .keyOn, { entryOf (dev 0) .keyOff with damaged := true, seq := 13 }],
                               true, 1045, none⟩ }) (fun t =>
      t.intake.queue == [] && !t.intake.latch && t.engine.op == none && t.keyer.wish == .on &&
        t.engine.last == some ⟨13, 0x61, .checksum, 0⟩) = true := by decide +kernel

/-- Spec 02 section 2.8, P4. -/
theorem test_damaged_entry :
    refusesWith (.damagedEntry ⟨.device, 0, 0x52, 13, [], true⟩) State.reset .checksum = true := by decide

theorem test_unknown_command : refusesWith (.unknownCommand (dev 0) 0x03 [1, 2]) State.reset .unknown = true := by
  decide

/-- Spec 02 R30: RESET RUN keeps the base list and the group address and empties the lane. -/
theorem test_reset_run :
    after (exec (.resetRun (dev 0)) { withLane [] { running [1, 2] 1 with speed := 9 } with
        intake := { Intake.initial with groupAddress := some 30 } }) (fun t =>
      (laneOf t 0).base == [1, 2] && (laneOf t 0).state == .idle && (laneOf t 0).speed == 0 &&
        t.intake.groupAddress == some 30) = true := by decide +kernel

/-- Spec 01 R4: RESET ALL returns the filter to 3 and applies its check. -/
theorem test_reset_all :
    after (exec (.resetAll (dev 0)) (withInput ⟨.holdover, some .f720p60, none, 0, 3, 15⟩)) (fun t =>
      t.input == ⟨.noSignal, some .f720p60, none, 0, 0, 3⟩ && t.guard.state == .guarded .clear) = true := by
  decide +kernel

/-- Spec 02 R27: group address 31 is refused and nothing in the packet applied. -/
theorem test_device_config_refuses_address_31 :
    after (exec (.deviceConfig (dev 0) ⟨some 31, none, some 2, none, none, none, none, none⟩) State.reset) (fun t =>
      reasonOf t == some .range && t.quote.classFilter == 0) = true := by decide

/-- Spec 09 section 9.14 and spec 01 R4: limits stored as 599 and 300 frames, the filter clamped. -/
theorem test_device_config_stores :
    after (exec (.deviceConfig (dev 0) ⟨some 255, some 0, none, none, some 10, some 5, none, some 9⟩) State.reset)
      (fun t => t.quote.staleFrames == 599 && t.quote.feedFrames == 300 && t.input.lossFilter == 1 &&
        t.guard.guardFade == 9 && t.intake.groupAddress == none) = true := by decide +kernel

/-- Spec 04 R57: the components clamped to 4..1019. -/
theorem test_palette_write :
    after (exec (.paletteWrite (dev 1) 63 [⟨0, 1023, 512⟩]) State.reset) (fun t =>
      writtenColour t.palette 63 == ⟨4, 1019, 512⟩ && displayedColour t.palette 63 == Colour.black) = true := by decide

/-- Spec 04 R44: height and baseline clamped. -/
theorem test_font_define :
    after (exec (.fontDefine (dev 0) ⟨1, 96, 64, 65, 64, 31⟩) State.reset) (fun t =>
      t.glyphs.fonts.q1 == some ⟨96, 64, 64, 63, some 31⟩) = true := by decide

/-- Spec 04 R50: an undefined font. -/
theorem test_font_clear_of_an_undefined_font : refusesWith (.fontClear (dev 0) 2) State.reset .range = true := by decide

/-- Spec 04 R47: the bitmap width at most the advance width. -/
theorem test_glyph_metrics :
    after (exec (.glyphMetrics (dev 1) ⟨0, 1, 20, 24⟩) { State.reset with glyphs := store10 }) (fun t =>
      advanceOf t.glyphs 1 == 20 && bitmapOf t.glyphs 1 == 20) = true := by decide +kernel

/-- Spec 02 R24: the engine is BUSY after the taking. -/
theorem test_glyph_rows_begin :
    after (exec (.glyphRows (dev 1) ⟨0, 1, 7, [List.replicate 32 0xF8]⟩) { State.reset with glyphs := store10 })
      (fun t => t.engine.op.isSome && coverageOf t.glyphs 1 7 0 == 0) = true := by decide +kernel

/-- Spec 04 R49 and the column order of spec 12 section 12.5. -/
theorem test_glyph_rows_complete :
    after (exec .glyphRowsCompletion { State.reset with
        glyphs := store10
        engine := ⟨some (.glyphRows ⟨0, 1, 7, [0xF8 :: List.replicate 31 0]⟩ 1), 0, none⟩ }) (fun t =>
      coverageOf t.glyphs 1 7 0 == 15 && coverageOf t.glyphs 1 7 1 == 8 && coverageOf t.glyphs 1 7 2 == 0 &&
        t.engine.op == none) = true := by decide +kernel

theorem test_code_map_write :
    after (exec (.codeMapWrite (dev 1) ⟨2, 254, [5, 0xFFFF]⟩) State.reset) (fun t =>
      Table.get none t.glyphs.maps.q2 254 == some 5 && Table.get none t.glyphs.maps.q2 255 == none) = true := by decide

/-- Spec 03 section 3.7: selector 9, absent, owner field 0, written at level 2. -/
theorem test_style_write :
    after (exec (.styleWrite (dev 2) ⟨9, 0, 1, 2, 3, 300, 4, 5, 6, 7⟩) State.reset) (fun t =>
      styleAt t 9 == some ⟨2, 1, 2, 3, 256, 4, 5, 6, 7⟩) = true := by decide

/-- Spec 03 section 3.7: a style of owner 2 written at level 3. -/
theorem test_style_write_above_the_owner :
    refusesWith (.styleWrite (dev 3) ⟨1, 3, 0, 0, 0, 0, 0, 0, 0, 0⟩) (withLane [] .initial) .level = true := by
  decide

/-- Spec 03 section 3.7: selector 0. -/
theorem test_style_drop_of_selector_0 : refusesWith (.styleDrop (dev 1) 0) State.reset .range = true := by decide

/-- Spec 05 R69: a run up to the last offset. -/
theorem test_text_write_at_the_end :
    after (exec (.textWrite (dev 2) 32766 [0x41, 0x42]) State.reset) (fun t =>
      Memory.read t.text 32766 == 0x41 && Memory.read t.text 32767 == 0x42) = true := by decide

/-- Spec 05 R68. -/
theorem test_text_write_beyond_the_end : refusesWith (.textWrite (dev 2) 32767 [0, 0]) State.reset .limit = true := by
  decide

/-- Spec 06 R75: the field set must hold SYMBOL. -/
theorem test_item_write_without_symbol :
    refusesWith (.itemWrite (dev 1) ⟨202, 2, 6, 0, 0, 17, 0x0E, 0, 0⟩) State.reset .range = true := by decide

/-- Spec 06 section 6.7: item 202, a QUOTE of symbol 17 with SYMBOL PRICE ARROW CHANGE in style 6. -/
theorem test_item_write_quote :
    after (exec (.itemWrite (dev 1) ⟨202, 2, 6, 0, 0, 17, 0x0F, 0, 0⟩) State.reset) (fun t =>
      itemAt t 202 == some ⟨1, 6, .quote 17 ⟨true, true, true, false⟩⟩) = true := by decide

/-- Spec 03 section 3.7: item 101 dropped at level 2, and dropped again. -/
theorem test_item_drop :
    after (exec (.itemDrop (dev 2) 101) (withLane [(101, some { textItem with owner := 2 })] .initial)) (fun t =>
      itemAt t 101 == none) = true ∧ refusesWith (.itemDrop (dev 2) 101) State.reset .notDefined = true := by decide

/-- Spec 06 R84: an empty list empties the base list and leaves the staged entry without a list position. -/
theorem test_playlist_write_empty :
    after (exec (.playlistWrite (dev 1) 0 [])
        (withLane [] { running [500, 501] 1 with slot := some { staged300 with position := some 0 } })) (fun t =>
      (laneOf t 0).base == [] && (laneOf t 0).cursor == 0 && (laneOf t 0).slot == some staged300) = true := by
  decide +kernel

/-- Spec 06 R85: more than 128 in all. -/
theorem test_playlist_append_beyond_128 :
    refusesWith (.playlistAppend (dev 1) 0 [1]) (withLane [] (running (List.replicate 128 0) 0)) .range = true := by
  decide +kernel

/-- Spec 03 section 3.7: a change of the owner level at level 1. -/
theorem test_lane_config_owner_change :
    refusesWith (.laneConfig (dev 1) ⟨2, 2, 0, 48, 0, 1920, 32, 0, 0⟩) State.reset .level = true := by decide

/-- Spec 07 section 7.12: the start stages item 500, of slot width 300 by its paddings, and the cursor is 1. -/
theorem test_lane_start_single_pass :
    after (exec (.laneStart (dev 1) 0 1 0)
        (withLane [(500, some textItem), (501, some textItem)] { Lane.initial with base := [500, 501] })) (fun t =>
      (laneOf t 0).slot == some { staged300 with position := some 0 } && (laneOf t 0).cursor == 1 &&
        !(laneOf t 0).passEnd && t.glyphs.missing == 1) = true := by decide +kernel

/-- Spec 07 section 7.11: a walk once round that finds nothing: three faults, STARVED, the cursor where it was. -/
theorem test_walk_starves :
    (refill (withLane [(401, some { textItem with body := .quote 60 ⟨true, true, true, true⟩ })] .initial)
      (running [400, 401, 402] 1)).1 =
    { running [400, 401, 402] 1 with faults := 3, lastFault := some (400, .emptyItem), starved := true } := by
  decide +kernel

/-- Spec 07 section 7.12: the refill at the pass end drains the lane. -/
theorem test_refill_at_the_pass_end :
    (refill State.reset { running [500, 501] 0 with mode := .singlePass, passEnd := true }).1.state = .draining := by
  decide

theorem test_lane_stop_drain_when_idle : refusesWith (.laneStopDrain (dev 1) 0) State.reset .state = true := by decide

/-- Spec 07 R95: the target becomes the current speed. -/
theorem test_lane_stop_cut :
    after (exec (.laneStopCut (dev 1) 0)
        (withLane [] { running [1] 0 with speed := 90, target := 180, slot := some staged300 })) (fun t =>
      (laneOf t 0).state == .idle && (laneOf t 0).target == 90 && (laneOf t 0).slot == none) = true := by
  decide +kernel

theorem test_lane_speed :
    after (exec (.laneSpeed (dev 1) 3 65535 30) State.reset) (fun t =>
      (laneOf t 3).target == 960 && (laneOf t 3).step == 30) = true := by decide

/-- Items 601 and 700 of spec 08 section 8.7. -/
def items87 : Table (Option Item) := [(601, some textItem), (700, some textItem), (711, some textItem)]

/-- Spec 08 section 8.7, INTERJECT A: the base cursor set back to 1, item 700 staged from position 0. -/
theorem test_interject_returns_the_staged_entry :
    after (exec (.interject (dev 1) 0 [700, 701, 702])
        (withLane items87 { running [600, 601, 602, 603] 2 with slot := some { staged300 with position := some 1 } }))
      (fun t => (laneOf t 0).cursor == 1 && (laneOf t 0).interjections == [⟨[700, 701, 702], 1⟩] &&
        ((laneOf t 0).slot.map fun e => (e.itemNumber, e.position)) == some (700, some 0)) = true := by decide +kernel

/-- Spec 08 section 8.7, INTERJECT B: item 710 faults, 711 is staged, and B is exhausted at once. -/
theorem test_interject_exhausts_at_once :
    after (exec (.interject (dev 1) 0 [710, 711])
        (withLane items87 { running [600, 601, 602, 603] 1 with
          interjections := [⟨[700, 701, 702], 1⟩], slot := some { staged300 with position := some 0 } })) (fun t =>
      (laneOf t 0).interjections == [⟨[700, 701, 702], 0⟩] && (laneOf t 0).faults == 1 &&
        (laneOf t 0).lastFault == some (710, .emptyItem) &&
        ((laneOf t 0).slot.map fun e => (e.itemNumber, e.position)) == some (711, none)) = true := by decide +kernel

/-- Spec 08 section 8.7, INTERJECT_CANCEL: 721 lost, A ended, 601 staged again from position 1. -/
theorem test_interject_cancel :
    after (exec (.interjectCancel (dev 1) 0)
        (withLane items87 { running [600, 601, 602, 603] 1 with
          interjections := [⟨[700, 701, 702], 0⟩], slot := some { staged300 with itemNumber := 721 } })) (fun t =>
      (laneOf t 0).interjections == [] && (laneOf t 0).cursor == 2 &&
        ((laneOf t 0).slot.map fun e => (e.itemNumber, e.position)) == some (601, some 1)) = true := by decide +kernel

/-- Spec 09 section 9.12, the first row. -/
theorem test_symbol_define :
    after (exec (.symbolDefine (dev 1) ⟨17, 1, 3, [0x51, 0x4C, 0x4D, 0, 0, 0, 0, 0], 2, 0, 18240⟩) State.reset)
      (fun t => symbolAt t.quote 17 == some qlm) = true := by decide

theorem test_symbol_drop :
    after (exec (.symbolDrop (dev 1) 17) (withSymbol qlm)) (fun t => t.quote.symbols == []) = true := by decide

/-- Spec 09 section 9.12, the fourth row: the second agreeing computation shows UP_SMALL and starts its flash. -/
theorem test_quote_shows_the_class :
    after (exec (.quote (dev 1) ⟨17, 18690⟩) (withSymbol
        { qlm with last := some 18677, change := 437, percent := some 240, computed := .upSmall,
                   candidate := some .upSmall, agree := 1, age := 5 })) (fun t =>
      symbolAt t.quote 17 == some { qlm with
        last := some 18690, change := 450, percent := some 247, computed := .upSmall, displayed := .upSmall,
        flash := 30 }) = true := by decide +kernel

/-- Spec 09 section 9.12, the fifth row: the class waits for agreement and the flash is that of the class still shown. -/
theorem test_quote_waits_for_agreement :
    after (exec (.quote (dev 1) ⟨17, 17600⟩) (withSymbol { qlm with last := some 18690, displayed := .upSmall }))
      (fun t => symbolAt t.quote 17 == some { qlm with
        last := some 17600, change := -640, percent := some (-351), computed := .downLarge, displayed := .upSmall,
        candidate := some .downLarge, agree := 1, flash := 30 }) = true := by decide +kernel

/-- Spec 03 section 3.7: three pairs, of which the second and third are refused one after the other. -/
theorem test_quote_batch :
    after (exec (.quoteBatch (dev 2) [⟨40, 5⟩, ⟨41, 6⟩, ⟨42, 7⟩])
        { State.reset with quote := { QuoteUnit.initial with
          symbols := [(40, some { qlm with owner := 2 }), (41, some qlm)], feedAge := 9 } }) (fun t =>
      t.engine.refusals == 2 && t.engine.last == some ⟨7, 0x53, .notDefined, 0⟩ && t.quote.feedAge == 0 &&
        ((symbolAt t.quote 40).bind Symbol.last) == some 5 && ((symbolAt t.quote 41).bind Symbol.last) == none) = true := by
  decide +kernel

/-- Spec 09 R137: the change is computed again, the age is not renewed. -/
theorem test_reference :
    after (exec (.reference (dev 1) ⟨17, 17600⟩) (withSymbol { qlm with last := some 17600, age := 4 })) (fun t =>
      ((symbolAt t.quote 17).map fun x => (x.reference, x.change, x.age)) == some (17600, 0, 4)) = true := by
  decide +kernel

/-- Spec 09 section 9.12, the last row: HALT bypasses the filter. -/
theorem test_halt :
    after (exec (.halt (dev 1) 17 1) (withSymbol { qlm with displayed := .downLarge, flash := 29 })) (fun t =>
      ((symbolAt t.quote 17).map fun x => (x.displayed, x.candidate, x.flash)) == some (.halted, none, 29)) = true := by
  decide +kernel

theorem test_movement_write :
    after (exec (.movementWrite (dev 1) ⟨1, 5, 14, 1, 0x83, 200⟩) State.reset) (fun t =>
      movementAt t.quote 11 == ⟨14, some 0x83, 120⟩) = true := by decide

/-- Spec 10 section 10.10: while GUARDED the wish alone is set. -/
theorem test_key_on_while_guarded :
    after (exec (.keyOn (dev 1)) guarded) (fun t => t.keyer == { guarded.keyer with wish := .on }) = true := by decide

/-- Spec 10 section 10.10. -/
theorem test_key_off :
    after (exec (.keyOff (dev 1)) { State.reset with keyer := ⟨108, .on, .on, .key, 15⟩ }) (fun t =>
      t.keyer == ⟨108, .off, .off, .key, 15⟩) = true := by decide

/-- The settings of spec 11 sections 11.8 and 11.9, before the third expiry: thirty codes of advance 20 in style 8. -/
def beforeSlate : State :=
  let style : Style := {
    style150 with
    owner := 1
    font := 0
    padLeft := 12
    padRight := 12 }
  let g : GlyphStore := {
    store10 with
    maps := (Quad.all []).set 0 [(0, some 0)]
    slots := [(0, { fill := .zero, widths := some (20, 2), rows := [] })] }
  let unit : GuardUnit := {
    GuardUnit.initial with
    inputLoss := ⟨true, true, .slate⟩
    feedLoss := ⟨true, false, .clear⟩
    slate := some ⟨900, 1000, 56, 360, 1560, 8⟩ }
  { withInput ⟨.holdover, some .f1080p5994, none, 0, 2, 3⟩ with
    glyphs := g
    styles := [(8, some style)]
    items := [(900, some { textItem with body := .text 0 30 })]
    keyer := ⟨256, .on, .on, .key, 15⟩
    guard := unit }

/-- Spec 11 section 11.9: the third expiry cuts the key and shows the slate, of slot width 624. -/
theorem test_expiry_shows_the_slate :
    after (exec .frameWindowExpiry beforeSlate) (fun t =>
      t.guard.state == .guarded .slate && t.keyer.level == 0 && t.keyer.target == .off && t.keyer.wish == .on &&
        (t.guard.resolved.map ResolvedSlate.width) == some 624 && !t.guard.slateFault) = true := by decide +kernel

/-- Spec 11 section 11.9, at 10,299: FEED_LOSS joins, CLEAR outranks SLATE and the slate is withdrawn. -/
theorem test_feed_loss_outranks_the_slate :
    let t := guardEvaluate { beforeSlate with
      quote := { QuoteUnit.initial with feedTimeout := 5, feedFrames := 300, feedAge := 300 }
      guard := { beforeSlate.guard with
        state := .guarded .slate, active := { CauseSet.empty with inputLoss := true },
        resolved := some ⟨style150, [], 624⟩ } }
    t.guard.state = .guarded .clear ∧ t.guard.resolved = none ∧ t.guard.active.feedLoss = true := by decide +kernel

/-- Spec 11 R169: a cause enabled while its condition is present joins at once. -/
theorem test_guard_config_joins :
    after (exec (.guardConfig (dev 0) ⟨0, 1, 1, 1⟩) State.reset) (fun t =>
      t.guard.inputLoss == ⟨true, true, .slate⟩ && t.guard.state == .guarded .slate && t.guard.slateFault) = true := by
  decide +kernel

theorem test_slate_config :
    after (exec (.slateConfig (dev 0) ⟨1, 900, 1000, 56, 360, 1560, 8⟩) State.reset) (fun t =>
      t.guard.slate == some ⟨900, 1000, 56, 360, 1560, 8⟩ && !t.guard.slateFault) = true := by decide

theorem test_guard_set_with_the_cut_flag :
    after (exec (.guardSet (dev 1) 0 1) { State.reset with keyer := ⟨256, .on, .on, .key, 15⟩ }) (fun t =>
      t.guard.state == .guarded .clear && t.guard.active.manual && t.keyer.level == 0) = true := by decide +kernel

/-- Spec 11 section 11.9: INPUT_LOSS, LATCHED with its condition gone, leaves, and the key goes back to the wish. -/
theorem test_guard_release :
    after (exec (.guardRelease (dev 1)) { withInput ⟨.locked, some .f1080p5994, none, 0, 0, 3⟩ with
        keyer := ⟨0, .off, .on, .key, 15⟩
        guard := { guarded.guard with inputLoss := ⟨true, true, .slate⟩, state := .guarded .slate } }) (fun t =>
      t.guard.state == .normal && t.keyer.target == .on && t.keyer.level == 0) = true := by decide +kernel

/-- Spec 11 R173: no cause leaves. -/
theorem test_guard_release_refused : refusesWith (.guardRelease (dev 1)) State.reset .state = true := by decide +kernel

/-- Spec 12 section 12.4: Q9 finds eight replies waiting. -/
theorem test_query_reply_full :
    refusesWith (.query (dev 3) 7 1) { State.reset with report := ⟨List.replicate 8 ⟨0, []⟩, none⟩ } .replyFull = true := by
  decide

/-- Spec 12 section 12.5: the reply of palette entry 1, white. -/
theorem test_query_palette :
    after (exec (.query (dev 3) 7 1) State.reset) (fun t =>
      t.report.replies == [⟨7, [7, 0, 1, 1, 0x03, 0xAC, 0x02, 0x00, 0x02, 0x00]⟩]) = true := by decide +kernel

/-- Spec 12 section 12.4: at 5001 the three oldest replies leave the queue. -/
theorem test_three_replies_leave :
    let t := writeReports (readHead State.reset)
      { State.reset with report := ⟨(List.range 8).map fun i => ⟨byte i, []⟩, none⟩ }
    t.report.replies.map Reply.seq = [3, 4, 5, 6, 7] ∧
      (t.report.lines.map fun l => l.replies.map Reply.seq) = some [0, 1, 2] := by decide +kernel

/-- Spec 01 R13, spec 11 R181. -/
theorem test_release_of_reset :
    after (exec (.resetRelease true []) (powerOnReset State.reset)) (fun t =>
      t.timing.counter == 1 && t.guard.active.inputLoss && !t.pins.resetLow) = true := by decide +kernel

theorem test_power_on_reset :
    after (exec .powerOnReset { withSymbol qlm with pins := ⟨5, false⟩ }) (fun t =>
      t.quote == .initial && t.pins == ⟨5, true⟩ && t.glyphs.fill == .undefined 1) = true := by decide +kernel

/-- Spec 01 R10, spec 10 R162: at key level 0 the programme passes in a frame begun in FOLLOWING, and is followed by black
where the line holds no more. -/
theorem test_draw_line :
    let fr : OutFrame := { format := .f720p60, following := true, blanking := [] }
    after (exec (.drawLine (some [⟨500, 1, 2⟩])) { State.reset with timing := { OutputTiming.initial with frame := some fr } })
      (fun t => t.renderer.nextLine == 1 &&
        (t.renderer.lastLine.map fun r => (r.1, r.2.length, r.2.take 2)) ==
          some (0, 1280, [⟨500, 1, 2⟩, ⟨64, 512, 512⟩])) = true := by decide +kernel

/-! ## Witnesses: for each statement with hypotheses, a state and operands that meet them, clause by clause -/

theorem witness_PowerOnResetSetsInitialValues :
    let f : RowsFields := ⟨0, 1, 57, List.replicate 7 (List.replicate 32 0xF8)⟩
    let s := { State.reset with glyphs := store10, engine := ⟨some (.glyphRows f 1), 0, none⟩ }
    (powerOnReset State.reset).pins.resetLow = true ∧ Instr.keyOn (dev 0) ≠ .powerOnReset ∧
      (∀ g order, Instr.keyOn (dev 0) ≠ .resetRelease g order) ∧
      (∀ f', s.engine.op ≠ some (.glyphRows f' 2)) ∧ State.reset.engine.op = none ∧ s.engine.op = some (.glyphRows f 1) ∧ 56 < f.first.toNat ∧
      f.first.toNat + f.rows.length ≤ 64 ∧ f.first.toNat ≤ 63 ∧ 63 < f.first.toNat + f.rows.length := by
  refine ⟨rfl, by decide, fun _ _ => Instr.noConfusion, fun f' h => ?_, rfl, rfl, by decide, by decide, by decide,
    by decide⟩
  injection h with h
  injection h with _ h
  cases h

theorem witness_GoodFrameFollowsTheLockTable :
    State.reset.pins.resetLow = false ∧ judge (formatStructure .f1080p50) = some .f1080p50 ∧
      (∀ f, matchesFormat { formatStructure .f1080p50 with activeLines := 1081 } f = false) ∧
      State.reset.input.state = .noSignal ∧
      (let u : InputUnit := ⟨.acquiring, none, some .f1080p50, 1, 2, 3⟩
       u.candidate = some .f1080p50 ∧ u.goodCount = 1 ∧ u.candidate ≠ some .f720p50) ∧
      (withInput ⟨.locked, some .f1080p50, none, 0, 0, 1⟩).input.lockedFormat = some .f1080p50 ∧
      (withInput ⟨.holdover, some .f720p60, none, 0, 14, 15⟩).input.lockedFormat ≠ some .f1080p50 := by
  refine ⟨rfl, rfl, fun f => ?_, rfl, ?_, rfl, ?_⟩
  · cases f <;> rfl
  · decide
  · decide

/-- A carriage line with a packet for address 0 between two other samples. -/
def ownLine : Line :=
  [0x200] ++ [0x19A, 0x14C] ++ (packetBytes 0 0 0x60 9 []).map (fun b => BitVec.ofNat 10 (256 + b.toNat)) ++ [0x201]

/-- A frame that keeps the lock, one that makes it and one that leaves it; and, in the carriage line, samples of an own
packet and samples outside it. -/
theorem witness_GoodFrameFollowsTheLockTable_starts :
    let locked := withInput ⟨.locked, some .f1080p50, none, 0, 0, 1⟩
    let held := withInput ⟨.holdover, some .f1080p50, none, 0, 0, 1⟩
    (after (exec (.goodFrame (formatStructure .f1080p50) ⟨[], 0⟩) locked) fun t => t.input.state == .locked) = true ∧
      (after (exec (.goodFrame (formatStructure .f1080p50) ⟨[], 0⟩) held) fun t => t.input.state == .locked) = true ∧
      held.input.state ≠ .locked ∧
      (after (exec (.goodFrame (formatStructure .f720p50) ⟨[], 0⟩) locked) fun t =>
        t.input.state != .locked) = true ∧
      (List.replicate 7 ownLine).length = 7 ∧
      (packetsOfLine ownLine).map (fun p => (p.start, p.stop, p.packet.kind, p.packet.bytes.head?)) =
        [(1, 9, .control, some 0)] := by decide +kernel

theorem witness_WindowExpiryCountsTowardLoss :
    State.reset.pins.resetLow = false ∧ State.reset.input.state = .noSignal ∧ ModeFollowsLock State.reset ∧
      (let u : InputUnit := ⟨.locked, some .f1080p50, none, 0, 0, 2⟩
       u.state = .locked ∧ u.missCount + 1 < u.lossFilter) ∧
      (let u : InputUnit := ⟨.acquiring, none, some .f1080p50, 1, 13, 15⟩
       u.state = .acquiring ∧ u.missCount + 1 < u.lossFilter) ∧
      (let u : InputUnit := ⟨.locked, some .f1080p50, none, 0, 0, 1⟩
       u.state ≠ .noSignal ∧ u.lossFilter ≤ u.missCount + 1) := by decide

theorem witness_InputLossGuardsAndReleases :
    (let s := withInput ⟨.holdover, some .f1080p50, none, 0, 2, 3⟩
     s.pins.resetLow = false ∧ s.input.state ≠ .noSignal ∧ s.input.lossFilter ≤ s.input.missCount + 1 ∧
       s.guard.inputLoss = { enabled := true, latched := false, action := .clear } ∧ s.guard.active = .empty ∧
       s.guard.state = .normal ∧ s.guard.guardFade ≠ 0) ∧
      guarded.pins.resetLow = false ∧ judge (formatStructure .f720p50) = some .f720p50 ∧
      guarded.input.state = .noSignal ∧ guarded.guard.inputLoss.latched = false ∧
      guarded.guard.active = { CauseSet.empty with inputLoss := true } ∧
      guarded.guard.state = .guarded .clear := by decide

/-- The part one frame from the end of its loss filter, or in NO_SIGNAL, with the settings of INPUT_LOSS, whether it is in
the set, whether INTAKE_OVERRUN is there with CLEAR, and the state that goes with them. -/
def atLoss (u : InputState) (c : CauseConfig) (member other : Bool) : State :=
  let g : GuardUnit := {
    GuardUnit.initial with
    inputLoss := c
    intakeOverrun := ⟨true, false, .clear⟩
    active := { CauseSet.empty with inputLoss := member, intakeOverrun := other } }
  { withInput ⟨u, some .f1080p50, none, 0, 2, 3⟩ with guard := { g with state := guardStateOf g } }

/-- The guard state before and after a step, and whether the set has moved. -/
def guardMoves (i : Instr) (s : State) (before now : GuardState) (moved : Bool) : Bool :=
  s.guard.state == before && after (exec i s) fun t => t.guard.state == now && (t.guard.active != s.guard.active) == moved

/-- At the expiry: SLATE from NORMAL, CLEAR from NORMAL, CLEAR from SLATE, beside another cause, disabled, in the set
already, and one frame too early. At the good frame: the last cause leaves, it leaves another cause behind, it is LATCHED,
and outside NO_SIGNAL. -/
theorem witness_InputLossGuardsAndReleases_settings :
    let good := Instr.goodFrame (formatStructure .f720p50) ⟨[], 0⟩
    let early := { atLoss .holdover ⟨true, false, .clear⟩ false false with
      input := ⟨.holdover, some .f1080p50, none, 0, 1, 3⟩ }
    let manual := { atLoss .holdover ⟨true, false, .clear⟩ false false with
      guard := { GuardUnit.initial with
        state := .guarded .slate, manual := true, manualAction := some .slate
        active := { CauseSet.empty with manual := true } } }
    guardMoves .frameWindowExpiry (atLoss .holdover ⟨true, true, .slate⟩ false false) .normal (.guarded .slate) true =
        true ∧
      guardMoves .frameWindowExpiry (atLoss .holdover ⟨true, false, .clear⟩ false false) .normal (.guarded .clear) true =
        true ∧
      guardMoves .frameWindowExpiry manual (.guarded .slate) (.guarded .clear) true = true ∧
      guardMoves .frameWindowExpiry (atLoss .holdover ⟨true, false, .slate⟩ false true) (.guarded .clear)
        (.guarded .clear) true = true ∧
      guardMoves .frameWindowExpiry (atLoss .holdover ⟨false, false, .slate⟩ false false) .normal .normal false = true ∧
      guardMoves .frameWindowExpiry (atLoss .holdover ⟨true, true, .slate⟩ true false) (.guarded .slate)
        (.guarded .slate) false = true ∧
      (early.input.missCount + 1 < early.input.lossFilter ∧
        guardMoves .frameWindowExpiry early .normal .normal false = true) ∧
      guardMoves good (atLoss .noSignal ⟨true, false, .slate⟩ true false) (.guarded .slate) .normal true = true ∧
      guardMoves good (atLoss .noSignal ⟨true, false, .slate⟩ true true) (.guarded .clear) (.guarded .clear) true = true ∧
      guardMoves good (atLoss .noSignal ⟨true, true, .slate⟩ true false) (.guarded .slate) (.guarded .slate) false =
        true ∧
      guardMoves good (atLoss .holdover ⟨true, false, .slate⟩ true false) (.guarded .slate) (.guarded .slate) false =
        true := by decide +kernel

/-- A slate that passes its checks, and one whose style is the null selector. -/
theorem witness_GuardActs_slate :
    (∃ c x codes, beforeSlate.guard.slate = some c ∧ SlatePasses beforeSlate c x codes) ∧
      ∃ c, ({ beforeSlate with guard := { beforeSlate.guard with slate := some ⟨900, 0, 56, 0, 64, 0⟩ } } : State).guard.slate
        = some c ∧ ∀ x codes, ¬SlatePasses beforeSlate c x codes :=
  ⟨⟨_, _, _, rfl, _, _, _, rfl, rfl, by decide, rfl, by decide, by decide, rfl⟩,
    ⟨_, rfl, fun _ _ ⟨_, _, _, _, _, h, _⟩ => h rfl⟩⟩

/-- A line with a packet cut short, a report packet and five control packets: the fifth is not searched for. -/
theorem witness_GoodFrameFollowsTheLockTable_search :
    let packet (kind : Sample) : Line :=
      [0x19A, kind] ++ (packetBytes 0 0 0x60 9 [5]).map fun b => BitVec.ofNat 10 (256 + b.toNat)
    let control := packet 0x14C
    let five := packet 0x153 ++ control ++ control ++ [7] ++ control ++ control ++ control
    (packetsOfLine five).map FoundAt.start = [0, 9, 18, 28, 37] ∧
      (packetsOfLine five).map (fun p => p.packet.kind == .control) = [false, true, true, true, true] ∧
      (packetsOfLine (control ++ control.take 8)).map (fun p => (p.start, p.stop, p.packet.truncated)) =
        [(0, 9, false), (9, 17, true)] ∧
      (five[46]? = some 0x19A ∧ five[47]? = some 0x14C) := by decide +kernel

/-- The part after reset with an output frame start waiting. -/
def frameWaits : State := { State.reset with pending := [.outputFrameStart defaultOrder] }

/-- One step of `frameWaits` answers a next state. -/
theorem witness_step_invariants : ∃ t, step frameWaits = .next t := ⟨_, rfl⟩

theorem witness_InputUnitAndModeStaySound :
    inputSound frameWaits.input = true ∧ ModeFollowsLock frameWaits ∧ ∃ t, step frameWaits = .next t :=
  ⟨by decide, by decide, witness_step_invariants⟩

theorem witness_FrameStartInAnyOrder :
    (withInput ⟨.locked, some .f720p60, none, 0, 0, 3⟩).pins.resetLow = false ∧ drawsNoLine defaultOrder :=
  ⟨by decide, fun _ h => by simp [defaultOrder] at h⟩

/-- Before the first output frame start there are no report lines; after it there are, with a status report and a reply. -/
theorem witness_FrameStartInAnyOrder_reports :
    let s := { State.reset with report := ⟨[⟨9, [5, 0, 0, 1]⟩], none⟩ }
    State.reset.report.lines = none ∧
      (after (exec (.outputFrameStart []) s) fun t => (t.report.lines.map ReportLines.replies) == some [⟨9, [5, 0, 0, 1]⟩] &&
        (outgoingBlanking t ⟨.f720p60, true, []⟩ 4).length == 80 &&
        (outgoingBlanking t ⟨.f720p60, true, []⟩ 5).length == 12) = true ∧
      (7 : Nat) ≠ 4 ∧ (7 : Nat) ≠ 5 := by decide +kernel

theorem witness_FrameStartAgesTheQuoteUnit :
    let s : State := { withSymbol { qlm with age := 65535, flash := 120 } with
      timing := { OutputTiming.initial with starts := [⟨.f720p50, []⟩] } }
    s.pins.resetLow = false ∧ startFormat s.timing = .f720p50 ∧ Format.f720p50 ≠ s.timing.format ∧
      startFormat State.reset.timing = State.reset.timing.format := by decide

theorem witness_FrameStartFadesTheKey :
    let s := { State.reset with keyer := ⟨252, .on, .on, .key, 15⟩ }
    let u := { State.reset with keyer := ⟨0, .on, .on, .key, 0⟩ }
    s.pins.resetLow = false ∧ s.guard.feedLoss.enabled = false ∧ s.guard.active.feedLoss = false ∧
      s.keyer.source = .key ∧ s.keyer.keyFade ≠ 0 ∧ 18 = (256 + s.keyer.keyFade - 1) / s.keyer.keyFade ∧
      u.keyer.source = .key ∧ u.keyer.keyFade = 0 ∧ (fadeToZero 255 s.keyer).source = .guard 2 := by decide

/-- The part whose feed limit of one frame is reached, FEED_LOSS enabled with an action, the cause in the set or not. -/
def feedLost (a : Action) (member : Bool) (before : GuardState) (age : Nat) : State :=
  let g : GuardUnit := {
    GuardUnit.initial with
    feedLoss := ⟨true, false, a⟩
    active := { CauseSet.empty with feedLoss := member }
    state := before }
  { State.reset with guard := g, quote := { QuoteUnit.initial with feedTimeout := 1, feedFrames := 60, feedAge := age } }

/-- The guard state after an output frame start is as given, and the set has moved or not. -/
def feedMoves (s : State) (g : GuardState) (moved : Bool) : Bool :=
  after (exec (.outputFrameStart []) s) fun t => t.guard.state == g && (t.guard.active != s.guard.active) == moved

theorem witness_FrameStartFadesTheKey_feed :
    (feedLost .clear false .normal 59).guard.guardFade ≠ 0 ∧
      feedMoves (feedLost .clear false .normal 59) (.guarded .clear) true = true ∧
      feedMoves (feedLost .slate false .normal 65535) (.guarded .slate) true = true ∧
      feedMoves (feedLost .slate true (.guarded .slate) 3) .normal true = true ∧
      feedMoves (feedLost .clear false .normal 58) .normal false = true := by decide +kernel

/-- FEED_LOSS joins with SLATE where a slate passes its checks, and with CLEAR beside a guard action of SLATE. -/
theorem witness_FrameStartFadesTheKey_slate :
    let lost := (feedLost .slate false .normal 59).quote
    let s := { beforeSlate with
      quote := lost
      guard := { beforeSlate.guard with feedLoss := ⟨true, false, .slate⟩ } }
    let u := { beforeSlate with
      quote := lost
      guard := { beforeSlate.guard with
        state := .guarded .slate, active := { CauseSet.empty with inputLoss := true } } }
    (after (exec (.outputFrameStart []) s) fun t =>
        t.guard.state == .guarded .slate && t.guard.resolved.isSome && !t.guard.slateFault) = true ∧
      (after (exec (.outputFrameStart []) u) fun t =>
        t.guard.state == .guarded .clear && t.guard.resolved.isNone) = true := by decide +kernel

/-- Every lane shows an entry and ramps, lane 3 at the highest speed. -/
def moving : State :=
  let l : Lane := {
    Lane.initial with
    state := .running
    speed := 900
    target := 960
    step := 60
    screen := [{ entry := staged300, x := -19000000, number := 0 }, { entry := staged300, x := 700000, number := 1 }]
    nextNumber := 2 }
  { withLane [] { l with state := .draining } with lanes := { Quad.all l with q0 := { l with state := .draining } } }

theorem witness_HeldLanesStand :
    let s := { moving with guard := guarded.guard }
    s.pins.resetLow = false ∧ s.guard.state ≠ .normal ∧
      (∃ t, exec (.outputFrameStart []) s = .next t ∧ t.guard.state ≠ .normal) ∧ 3 < 4 ∧ drawsNoLine [] :=
  ⟨by decide, by decide, ⟨_, rfl, by decide +kernel⟩, by decide, fun _ => List.not_mem_nil⟩

theorem witness_UnheldLanesRampAndMove :
    moving.pins.resetLow = false ∧ moving.guard.state = .normal ∧
      (∃ t, exec (.outputFrameStart []) moving = .next t ∧ t.guard.state = .normal) ∧
      (laneOf moving 0).state = .draining ∧ (laneOf moving 3).state = .running ∧
      (laneOf State.reset 3).state = .idle ∧ drawsNoLine [] :=
  ⟨by decide, by decide, ⟨_, rfl, by decide +kernel⟩, by decide, by decide, by decide, fun _ => List.not_mem_nil⟩

/-- One lane whose slot holds an entry and whose list is empty, one whose list of 16 turns its entry away, and one whose
last entry leaves as it drains. -/
theorem witness_UnheldLanesRampAndMove_placement :
    let l := { running [] 0 with slot := some staged300 }
    let full := { l with
      screen := (List.range 16).map fun i =>
        { entry := { staged300 with width := 1 }, x := (i * 65536 : Nat), number := i }
      config := { l.config with gap := 0 } }
    let last := { l with state := .draining, slot := none, screen := [{ entry := staged300, x := -19660800, number := 0 }] }
    let s := { withLane [] l with lanes := ⟨l, full, last, l⟩ }
    s.pins.resetLow = false ∧ s.guard.state = .normal ∧ (laneOf s 0).slot = some staged300 ∧
      (after (exec (.outputFrameStart []) s) fun t => t.guard.state == .normal && (laneOf t 0).screen.length == 1 &&
        (laneOf t 1).slot.isSome && (laneOf t 1).crowded == 1 && (laneOf t 2).drained == 1) = true := by
  decide +kernel

/-- Lanes with an empty slot: one in LOOP that places its only entry and stages it again, one that is STARVED, one in
SINGLE_PASS that places its last entry and drains, and one that finds nothing and becomes IDLE. -/
theorem witness_UnheldLanesRampAndMove_refills :
    let l := running [711] 0
    let single := { running [711, 710] 0 with mode := .singlePass }
    let s := { withLane items87 l with lanes := ⟨l, running [710] 0, single, { single with cursor := 1 }⟩ }
    s.pins.resetLow = false ∧ s.guard.state = .normal ∧ l.slot = none ∧
      (after (exec (.outputFrameStart []) s) fun t => t.guard.state == .normal &&
        (laneOf t 0).screen.length == 1 && (laneOf t 0).slot.isSome && (laneOf t 0).state == .running &&
        (laneOf t 1).starved && (laneOf t 1).slot.isNone && (laneOf t 1).faults == 1 &&
        (laneOf t 2).screen.length == 1 && (laneOf t 2).state == .draining && (laneOf t 2).faults == 1 &&
        (laneOf t 3).state == .idle && (laneOf t 3).drained == 1 && (laneOf t 3).lastFault == some (710, .emptyItem) &&
        t.glyphs.missing == s.glyphs.missing + BitVec.ofNat 32
          ((refill s l).2 * 2 + (refill s single).2)) = true := by
  decide +kernel

theorem witness_FrameSetShowsTheLists :
    moving.pins.resetLow = false ∧ (laneOf moving 3).screen.length = 2 ∧ drawsNoLine [] ∧
      (after (exec (.outputFrameStart []) moving) fun t =>
        (t.renderer.frameSet.map fun q => q.q3.entries.length) == some 1 && (laneOf t 3).screen.length == 1) = true :=
  ⟨by decide, by decide, fun _ => List.not_mem_nil, by decide +kernel⟩

theorem witness_IncrementFollowsTheSpeed :
    (IncrementsMatch frameWaits ∧ (∀ l ∈ frameWaits.lanes.toList, l.speed ≤ 960 ∧ l.target ≤ 960) ∧
      ∃ t, step frameWaits = .next t) ∧
      moving.pins.resetLow = false ∧ Ready moving ∧ (dev 0).level = 0 ∧ 960 ≤ 960 :=
  ⟨⟨by decide, by decide, witness_step_invariants⟩, by decide, by decide, rfl, by decide⟩

theorem witness_LanesStaySound :
    let s := { moving with pending := [.outputFrameStart []] }
    LanesSound s ∧ ListsInOrder s ∧ ∃ t, step s = .next t :=
  ⟨by decide +kernel, by decide +kernel, ⟨_, rfl⟩⟩

theorem witness_DrawLineMixesTheNextLine :
    let fr : OutFrame := { format := .f720p60, following := true, blanking := [] }
    let s := { moving with timing := { moving.timing with frame := some fr }
                           renderer := { moving.renderer with nextLine := 719 } }
    s.pins.resetLow = false ∧ s.timing.frame = some fr ∧ s.renderer.nextLine < activeLines fr.format ∧
      s.keyer.level = 0 ∧ s.guard.resolved = none ∧ s.renderer.frameSet = none := by decide

/-- A frame set with a clipped entry on the line drawn; and rows of a font that exists, inside it and outside it, and of
one that does not. -/
theorem witness_DrawLineMixesTheNextLine_layers :
    (marking.pins.resetLow = false ∧ (marking.timing.frame.map OutFrame.format) = some .f720p60 ∧
      (marking.renderer.frameSet.map fun q => q.q0.entries.map SnapEntry.number) = some [4] ∧ [4].Nodup ∧
      (after (exec (.drawLine none) marking) fun t =>
        t.renderer.frameSet.isSome && (laneOf t 0).clipped == 1) = true) ∧
      (store10.fonts.get 0 = some font2 ∧ (7 : Int) - (0 + (8 - 8) / 2) < 8 ∧ (8 : Int) ≤ 8 - (0 + (8 - 8) / 2)) ∧
      store10.fonts.get 3 = none ∧ 0 ≤ 100 := by decide +kernel

theorem witness_MixLiesBetween : 256 ≤ 256 ∧ 0 ≤ 256 := by decide

/-! ### Intake and command engine -/

/-- A part at address 29 in group 30, busy with its queue one short of full. -/
def busy29 : State :=
  { busy with pins := ⟨29, false⟩
              intake := ⟨List.replicate 15 (entryOf (dev 0) .keyOn), false, 0, some 30⟩ }

theorem witness_PacketsMatchByAddress :
    busy29.pins.resetLow = false ∧ (28 ≠ deviceAddress busy29 ∧ busy29.intake.groupAddress ≠ some 28 ∧ 28 ≠ 31) ∧
      29 = deviceAddress busy29 ∧ (30 ≠ deviceAddress busy29 ∧ busy29.intake.groupAddress = some 30) ∧
      (31 ≠ deviceAddress busy29 ∧ busy29.intake.groupAddress ≠ some 31) ∧ busy29.engine.op.isSome = true ∧
      busy29.intake.queue.length < 16 ∧ busy29.intake.latch = false ∧ Ready State.reset ∧
      (packetOf 31 (dev 0) .keyOn).kind = .control := by decide

/-- Spec 02 R17: a packet that is not damaged, one whose sum is not 0, one of level 4, one of length 241, and one that ends
before its sequence number. -/
theorem witness_PacketsMatchByAddress_entries :
    let entry (bytes : List Byte) (truncated : Bool) := entryOfPacket .all ⟨.control, bytes, truncated⟩
    (entry [31, 3, 0x60, 7, 0, 0x77] false).damaged = false ∧ (entry [31, 3, 0x60, 7, 0, 0x78] false).damaged = true ∧
      (entry [31, 4, 0x60, 7, 0, 0x76] false).damaged = true ∧
      (entry ([31, 0, 0, 0, 241] ++ List.replicate 241 0 ++ [0xF0]) false).damaged = true ∧
      (entry ([31, 0, 0, 0, 240] ++ List.replicate 240 0 ++ [0xF1]) false).damaged = false ∧
      (entry ([31, 0, 0, 0, 240] ++ List.replicate 240 0 ++ [0xF1]) false).payload.length = 240 ∧
      entry [31, 3, 0x60] true = ⟨.all, 3, 0x60, 0, [], true⟩ := by decide +kernel

theorem witness_OverrunDropsAndCounts :
    let s := { busy29 with intake := appendEntry (entryOf (dev 0) .keyOn) busy29 |>.intake }
    let u := { s with guard := { s.guard with intakeOverrun := ⟨true, false, .clear⟩ } }
    s.pins.resetLow = false ∧ routeOf s 29 = some .device ∧ 16 ≤ s.intake.queue.length ∧
      (dropPacket s).intake.latch = true ∧ routeOf (dropPacket s) 31 = some .all ∧
      (dropPacket s).guard.active = s.guard.active ∧ u.intake.latch = false ∧
      (dropPacket u).guard.active ≠ u.guard.active ∧
      (packetOf 29 (dev 3) .keyOn).bytes.head? = some 29 := by decide +kernel

theorem witness_ArrivalOfItsPacketIsTheCommand :
    let i := Instr.playlistWrite { dev 3 with route := .group } 3 (List.replicate 116 1023)
    let c := Command.playlistWrite 3 (List.replicate 116 1023)
    packetCommand i = some ({ dev 3 with route := .group }, c) ∧ 3 ≤ 3 ∧ Command.consistent c = true ∧
      routeOf busy29 30 = some .group := by decide +kernel

theorem witness_PayloadReadsBackAsTheCommand :
    Command.consistent (.textWrite 0 (List.replicate 238 0x41)) = true ∧
      Command.consistent (.playlistWrite 0 []) = true ∧
      Command.consistent (.glyphRows ⟨0, 0, 0, List.replicate 7 (List.replicate 32 1)⟩) = true := by decide +kernel

theorem witness_PayloadIsDeterminedByTheCommand :
    readCommand 0x44 [3, 1, 2, 0x58] = .command (.interject 3 [600]) := by decide

theorem witness_CommandsWaitWhileBusy :
    packetCommand (.keyOn (dev 0)) = some (dev 0, .keyOn) ∧ Busy busy29 ∧ busy29.intake.queue.length < 16 ∧
      busy29.intake.latch = false := by decide

theorem witness_LevelsAboveTheRequirementAreRefused :
    packetCommand (.textWrite (dev 3) 0 [0]) = some (dev 3, .textWrite 0 [0]) ∧
      Command.consistent (.textWrite 0 [0]) = true ∧ Ready State.reset ∧
      levelRequired (.textWrite 0 [0]) = some 2 ∧ 2 < (dev 3).level ∧ levelRequired (.fontClear 9) = some 0 ∧
      0 < (dev 1).level ∧ levelRequired .keyOff = some 1 ∧ 1 < (dev 2).level := by decide

/-- Spec 03 R34: objects of owner level 2, 1, 1 and 1 named at level 3, 2, 2 and 2; numbers just outside their ranges; objects
that do not exist; and an owner field of 4. -/
theorem witness_LevelsAboveTheRequirementAreRefused_owners :
    let s := { withLane [(1023, some textItem)] .initial with quote := (withSymbol qlm).quote }
    let f : LaneFields := ⟨3, 4, 0, 48, 0, 64, 0, 1, 0⟩
    Ready s ∧ (ownedObject s (.styleDrop 1) = some (true, some 2) ∧ 2 < (dev 3).level) ∧
      (ownedObject s (.itemDrop 1023) = some (true, some 1) ∧ 1 < (dev 2).level) ∧
      ownedObject s (.halt 17 1) = some (true, some 1) ∧ ownedObject s (.laneStop 3 0) = some (true, some 1) ∧
      (ownedObject s (.styleDrop 64)).map Prod.fst = some false ∧ (ownedObject s (.styleDrop 0)).map Prod.fst = some false ∧
      (ownedObject s (.itemDrop 1024)).map Prod.fst = some false ∧
      (ownedObject s (.quote ⟨512, 5⟩)).map Prod.fst = some false ∧
      (ownedObject s (.interjectCancel 4)).map Prod.fst = some false ∧
      (ownedObject s (.quote ⟨511, 5⟩) = some (true, none) ∧ needsObject (.quote ⟨511, 5⟩) = true) ∧
      (ownedObject s (.laneConfig f) = some (true, some 1) ∧ requestedOwner (.laneConfig f) = some 4 ∧
        3 < (4 : Byte).toNat ∧ (dev 1).level ≤ 1) ∧
      (∀ n, levelRequired (.laneConfig f) = some n → (dev 1).level ≤ n) ∧
      packetCommand (.laneConfig (dev 1) f) = some (dev 1, .laneConfig f) ∧ Command.consistent (.laneConfig f) = true := by
  refine ⟨by decide, by decide, by decide, by decide, by decide, by decide, by decide, by decide, by decide, by decide,
    by decide, by decide, fun _ h => ?_, by decide, by decide⟩
  cases h

/-- Every owned kind of command at a level above the owner is refused with LEVEL. -/
theorem test_owners_are_checked :
    let s := { withLane [(1023, some textItem)] .initial with quote := (withSymbol qlm).quote }
    (refusesWith (.styleDrop (dev 3) 1) s .level && refusesWith (.itemDrop (dev 2) 1023) s .level &&
      refusesWith (.symbolDrop (dev 2) 17) s .level && refusesWith (.quote (dev 2) ⟨17, 5⟩) s .level &&
      refusesWith (.reference (dev 2) ⟨17, 5⟩) s .level && refusesWith (.halt (dev 2) 17 1) s .level &&
      refusesWith (.playlistWrite (dev 2) 3 []) s .level && refusesWith (.laneStart (dev 2) 3 0 0) s .level &&
      refusesWith (.interjectCancel (dev 2) 3) s .level) = true := by decide +kernel

theorem witness_RefusedBeforeTheirOwnChecks :
    Ready State.reset ∧ readerOf 0x80 = none ∧
      packetCommand (.interject (dev 0) 0 (List.replicate 9 0)) = some (dev 0, .interject 0 (List.replicate 9 0)) ∧
      Command.consistent (.interject 0 (List.replicate 9 0)) = false := by
  decide +kernel

/-- Packets of a code that is not recognised, of a wrong fixed length, of a count with another length, of a count out of its
range and too short to hold its count, each with a good checksum; and the boundaries of the lengths. -/
theorem witness_RefusedBeforeTheirOwnChecks_lengths :
    let p (code : Byte) (payload : List Byte) : Found := ⟨.control, packetBytes 0 0 code 7 payload, false⟩
    let e (code : Byte) (payload : List Byte) := entryOfPacket .device (p code payload)
    routeOf State.reset 0 = some .device ∧ (e 0x34 []).damaged = false ∧
      lengthConsistent (e 0x34 []).code (e 0x34 []).payload = none ∧
      lengthConsistent (e 0x60 [1]).code (e 0x60 [1]).payload = some false ∧
      lengthConsistent 0x33 [0, 1, 0] = some false ∧ lengthConsistent 0x33 [0, 0] = some false ∧
      lengthConsistent 0x32 [0, 0] = some true ∧ lengthConsistent 0x14 [0, 0, 0, 0] = some false ∧
      lengthConsistent 0x02 [0x28, 1, 2, 3] = some false ∧ lengthConsistent 0x02 [0x28, 1, 2, 3, 4] = some true ∧
      lengthConsistent 0x22 [0, 0] = some false ∧ lengthConsistent 0x22 [0, 0, 65] = some true := by decide +kernel

theorem witness_CompletionsWriteTheGlyphs :
    let f : RowsFields := ⟨0, 1, 57, List.replicate 7 (List.replicate 32 0xF8)⟩
    let s := { State.reset with glyphs := store10, engine := ⟨some (.glyphRows f 1), 0, none⟩ }
    let u := { State.reset with glyphs := store10, engine := ⟨some (.fontClear 0 0 1024), 0, none⟩ }
    s.pins.resetLow = false ∧ s.intake.queue = [] ∧ StoresSound s ∧ s.engine.op = some (.glyphRows f 1) ∧
      u.pins.resetLow = false ∧ u.intake.queue = [] ∧ StoresSound u ∧
      u.engine.op = some (.fontClear 0 0 1024) :=
  ⟨by decide, by decide, by decide +kernel, rfl, by decide, by decide, by decide +kernel, rfl⟩

/-- An idle engine with two entries waiting; with one and the latch set; and so with INTAKE_OVERRUN in the set, AUTO and
LATCHED. -/
theorem witness_CompletionsWriteTheGlyphs_takings :
    let e := entryOf (dev 0) .keyOn
    let q (n : Nat) (b latched : Bool) : State := { State.reset with
      intake := ⟨List.replicate n e, b, 1, none⟩
      guard := { GuardUnit.initial with
        intakeOverrun := ⟨true, latched, .clear⟩, active := { CauseSet.empty with intakeOverrun := true } } }
    busy.engine.op.isSome = true ∧ (q 2 true false).engine.op = none ∧ (q 2 true false).intake.queue = [e, e] ∧
      (q 1 true false).intake.queue = [e] ∧ (q 1 true false).intake.latch = true ∧ (q 1 false true).intake.latch = false ∧
      (q 1 true false).guard.active.intakeOverrun = true ∧ (q 1 true false).guard.intakeOverrun.latched = false ∧
      (q 1 true true).guard.intakeOverrun.latched = true := by decide +kernel

/-- Entries wait behind an operation, with room and the latch set and clear; a packet for this part. -/
theorem witness_CompletionsWriteTheGlyphs_among :
    let e := entryOf (dev 0) .keyOn
    let q (b : Bool) : State := { busy with intake := ⟨[e, e], b, 1, none⟩ }
    (q true).pins.resetLow = false ∧ (q true).engine.op = some (.fontClear 0 0 1) ∧ (q true).intake.latch = true ∧
      (q false).intake.latch = false ∧ (q false).intake.queue.length < 16 ∧ routeOf (q false) 0 = some .device ∧
      (packetOf 0 (dev 0) .keyOn).bytes.head? = some 0 ∧ (powerOnReset (q true)).pins.resetLow = true := by decide

theorem witness_IntakeStaysSound :
    let s := { busy29 with pending := [.fontClearCompletion] }
    IntakeSound s ∧ RepliesSound s ∧ ∃ t, step s = .next t := by
  refine ⟨⟨by decide, by decide, by decide, fun g h => ?_⟩, by decide, ⟨_, rfl⟩⟩
  cases h
  decide

/-! ### DEVICE_CONFIG and RESET -/

theorem witness_DeviceConfigStoresTheSettings :
    Ready State.reset ∧ (dev 0).level = 0 ∧ (31 ≤ (31 : Byte).toNat ∧ (31 : Byte).toNat ≤ 254) ∧
      (31 ≤ (254 : Byte).toNat ∧ (254 : Byte).toNat ≤ 254) ∧ (30 : Byte).toNat ≤ 30 ∧ (255 : Byte).toNat = 255 ∧
      some (600 : Half) ≠ none ∧ ModeFollowsLock State.reset ∧
      (let u : InputUnit := ⟨.holdover, some .f720p60, none, 0, 2, 15⟩
       u.state = .holdover ∧ clampTo 1 15 2 ≤ u.missCount) := by decide

/-- A DEVICE_CONFIG whose loss filter enters NO_SIGNAL, INPUT_LOSS joining with each action, disabled, and in the set. -/
theorem witness_DeviceConfigStoresTheSettings_loss :
    let i := Instr.deviceConfig (dev 0) ⟨none, some 2, none, none, none, none, none, some 0⟩
    guardMoves i (atLoss .holdover ⟨true, false, .clear⟩ false false) .normal (.guarded .clear) true = true ∧
      guardMoves i (atLoss .acquiring ⟨true, true, .slate⟩ false false) .normal (.guarded .slate) true = true ∧
      guardMoves i (atLoss .holdover ⟨false, false, .clear⟩ false false) .normal .normal false = true ∧
      guardMoves i (atLoss .holdover ⟨true, true, .slate⟩ true false) (.guarded .slate) (.guarded .slate) false =
        true ∧
      guardMoves i (atLoss .locked ⟨true, false, .clear⟩ false false) .normal .normal false = true := by decide +kernel

theorem witness_DeviceAddressIsStrapped :
    (∃ t, exec (.resetRun (dev 0)) State.reset = .next t) ∧ (∃ t, exec (.resetAll (dev 0)) State.reset = .next t) ∧
      (∃ t, exec (.deviceConfig (dev 0) ⟨some 3, none, none, none, none, none, none, none⟩) State.reset = .next t) ∧
      deviceAddress { State.reset with pins := ⟨31, false⟩ } = 30 :=
  ⟨⟨_, rfl⟩, ⟨_, rfl⟩, ⟨_, rfl⟩, by decide⟩

theorem witness_ResetRunKeepsWhatIsLoaded : Ready moving ∧ (dev 0).level = 0 := by decide

/-- A RESET RUN in NO_SIGNAL with action SLATE and with CLEAR, and one with INPUT_LOSS disabled. -/
theorem witness_ResetRunKeepsWhatIsLoaded_guard :
    let s := { beforeSlate with input := InputUnit.initial }
    let clear := { s with guard := { s.guard with inputLoss := ⟨true, true, .clear⟩ } }
    let out := { s with guard := { s.guard with inputLoss := ⟨false, true, .slate⟩ } }
    Ready s ∧ Ready clear ∧ Ready out ∧ clear.guard.guardFade ≠ 0 ∧
      (after (exec (.resetRun (dev 0)) s) fun t => t.guard.state == .guarded .slate && t.guard.resolved.isSome) = true ∧
      (after (exec (.resetRun (dev 0)) clear) fun t => t.guard.state == .guarded .clear) = true ∧
      (after (exec (.resetRun (dev 0)) out) fun t => t.guard.state == .normal) = true := by decide +kernel

theorem witness_ResetAllClearsWhatIsLoaded :
    Ready (withInput ⟨.acquiring, none, some .f720p60, 1, 3, 15⟩) ∧ (dev 0).level = 0 := by decide

/-! ### Glyph store, palette, styles, text, items -/

theorem witness_PaletteWriteStoresClampedColours :
    Ready State.reset ∧ (dev 1).level ≤ 1 ∧ (32 : Byte).toNat + (List.replicate 32 Colour.black).length ≤ 64 ∧
      Table.wf Colour.black State.reset.palette.written := by decide

theorem witness_FontDefineNeedsIdleLanes :
    Ready State.reset ∧ (3 : Byte).toNat ≤ 3 ∧ (1023 : Half).toNat + (1 : Half).toNat ≤ 1024 ∧
      (1023 : Half).toNat ≤ 1023 ∧ (∀ l ∈ State.reset.lanes.toList, l.state = .idle) ∧ Ready moving ∧
      ∃ l ∈ moving.lanes.toList, l.state ≠ .idle := by decide

theorem witness_GlyphWritesBeginAtTheirTaking :
    let s := { State.reset with glyphs := store10 }
    let rows : List (List Byte) := List.replicate 7 (List.replicate 32 1)
    Ready s ∧ (dev 1).level ≤ 1 ∧ s.glyphs.fonts.get (0 : Byte).toNat = some font2 ∧ (1 : Half).toNat < font2.count ∧
      1 ≤ rows.length ∧ rows.length ≤ 7 ∧ (∀ r ∈ rows, r.length = 32) ∧ (57 : Byte).toNat + rows.length ≤ 64 ∧
      ∀ l ∈ s.lanes.toList, l.state = .idle := by decide +kernel

theorem witness_GlyphMetricsWritesTheWidths :
    let s := { State.reset with glyphs := store10 }
    Ready s ∧ (dev 1).level ≤ 1 ∧ s.glyphs.fonts.get (0 : Byte).toNat = some font2 ∧ (1 : Half).toNat < font2.count ∧
      Table.wf (Glyph.blank s.glyphs.fill) s.glyphs.slots := by decide

theorem witness_CodeMapWriteStoresItsRun :
    let entries : List Half := List.replicate 112 1023
    Ready State.reset ∧ (3 : Byte).toNat ≤ 3 ∧ 1 ≤ entries.length ∧ entries.length ≤ 112 ∧
      (144 : Byte).toNat + entries.length ≤ 256 ∧ (∀ e ∈ entries, e = 0xFFFF ∨ e.toNat ≤ 1023) ∧
      Table.wf none (State.reset.glyphs.maps.get 3) := by
  refine ⟨by decide, by decide, by decide, by decide, by decide +kernel, fun e h => ?_, by decide⟩
  rw [List.eq_of_mem_replicate h]
  decide

theorem witness_StyleWriteReplacesTheDescriptor :
    let s := withLane [] .initial
    Ready s ∧ 1 ≤ (1 : Byte).toNat ∧ (63 : Byte).toNat ≤ 63 ∧
      (∀ x, styleAt s (1 : Byte).toNat = some x → (dev 2).level ≤ x.owner) ∧ (3 : Byte).toNat ≤ 3 ∧
      Table.wf none s.styles := by
  refine ⟨by decide, by decide, by decide, fun x h => ?_, by decide, by decide⟩
  cases h
  decide

theorem witness_DropsRemoveTheObject :
    let s := { withLane [(1023, some textItem)] .initial with quote := (withSymbol qlm).quote }
    Ready s ∧ Table.wf none s.styles ∧ Table.wf none s.items ∧ Table.wf none s.quote.symbols ∧
      styleAt s (63 : Byte).toNat = none ∧ styleAt s (1 : Byte).toNat = some style150 ∧
      itemAt s (0 : Half).toNat = none ∧ itemAt s (1023 : Half).toNat = some textItem ∧
      symbolAt s.quote (511 : Half).toNat = none ∧ symbolAt s.quote (17 : Half).toNat = some qlm ∧
      (dev 1).level ≤ 1 := by decide +kernel

theorem witness_TextWriteStoresItsRun :
    Ready State.reset ∧ (dev 2).level ≤ 2 ∧ 1 ≤ (List.replicate 238 (0 : Byte)).length ∧
      (List.replicate 238 (0 : Byte)).length ≤ 238 ∧ Memory.wf State.reset.text ∧
      (32530 : Half).toNat + 238 ≤ 32768 ∧ 32768 < (32531 : Half).toNat + 238 := by decide +kernel

theorem witness_ItemWriteReplacesTheRecord :
    let s := withLane [(1023, some { textItem with owner := 3 })] .initial
    Ready s ∧ (1023 : Half).toNat ≤ 1023 ∧
      (∀ x, itemAt s (1023 : Half).toNat = some x → (dev 3).level ≤ x.owner) ∧ (63 : Byte).toNat ≤ 63 ∧
      Table.wf none s.items ∧ (32767 : Half).toNat ≤ 32767 ∧ (1024 : Half).toNat ≤ 1024 ∧
      (511 : Half).toNat ≤ 511 ∧ (31 : Byte).toNat < 32 ∧ (31 : Byte).getLsbD 0 = true := by
  refine ⟨by decide, by decide, fun x h => ?_, by decide, by decide, by decide, by decide, by decide, by decide,
    by decide⟩
  cases h
  decide

theorem witness_StoresStayCanonical : StoresSound frameWaits ∧ ∃ t, step frameWaits = .next t :=
  ⟨by decide, witness_step_invariants⟩

/-! ### Lanes -/

theorem witness_LaneConfigAndSpeedSetTheLane :
    Ready State.reset ∧ (3 : Byte).toNat ≤ 3 ∧ (dev 1).level ≤ (laneOf State.reset 3).owner ∧
      (1 : Byte).toNat = (laneOf State.reset 3).owner ∧ (63 : Byte).toNat ≤ 63 ∧
      (3 : Byte).toNat ≠ (laneOf State.reset 3).owner ∧ (dev 1).level ≠ 0 ∧ (dev 0).level = 0 := by decide

theorem witness_PlaylistsAndStartsEndInARefill :
    let s := withLane [] { Lane.initial with base := List.replicate 12 1023 }
    let items : List Half := List.replicate 116 1023
    Ready s ∧ (0 : Byte).toNat ≤ 3 ∧ (dev 1).level ≤ (laneOf s 0).owner ∧ items.length ≤ 116 ∧
      (∀ i ∈ items, i.toNat ≤ 1023) ∧ (laneOf s 0).base.length + items.length ≤ 128 ∧
      (laneOf s 0).state ≠ .running := by
  refine ⟨by decide, by decide, by decide, by decide, fun i h => ?_, by decide +kernel, by decide⟩
  rw [List.eq_of_mem_replicate h]
  decide

theorem witness_RefillStagesTheFirstThatPasses :
    let s := withLane items87 .initial
    let l := running [710, 711, 601] 2
    let c : Candidate := { item := textItem, itemNumber := 711, style := style150, selector := 1 }
    let k := running [710, 710] 1
    (laneOf State.reset 0).state ≠ .running ∧ l.state = .running ∧ l.slot = none ∧ l.mode = .loop ∧
      l.interjections = [] ∧ ([601, 710, 711] : List Nat) = l.base.drop l.cursor ++ l.base.take l.cursor ∧
      testEntry s l 711 = .ok c ∧ testEntry s l 710 = .error .emptyItem ∧ l.faults + 1 ≤ 65535 ∧
      k.base ≠ [] ∧ k.cursor ≤ k.base.length ∧ (∀ b ∈ k.base, testEntry s k b = .error .emptyItem) ∧
      ({ k with mode := .singlePass, passEnd := true } : Lane).passEnd = true := by
  refine ⟨by decide, by decide, by decide, by decide, by decide, by decide, rfl, rfl, by decide, by decide, by decide,
    fun b h => ?_, rfl⟩
  rw [List.eq_of_mem_replicate (n := 2) h]
  rfl

/-- SINGLE_PASS with an entry after the one that passes and with none; an interjection context that stages its last entry
and one that is exhausted. -/
theorem witness_RefillStagesTheFirstThatPasses_contexts :
    let s := withLane items87 .initial
    let l := { running [710, 711, 601] 0 with mode := .singlePass }
    let last := { running [601, 710, 711] 1 with mode := .singlePass }
    let i : Interjection := ⟨[700, 710, 711], 1⟩
    let below : Interjection := ⟨[710, 710], 0⟩
    l.state = .running ∧ l.slot = none ∧ l.passEnd = false ∧ l.interjections = [] ∧
      l.base.drop l.cursor = [710] ++ 711 :: [601] ∧ last.base.drop last.cursor = [710] ++ 711 :: [] ∧
      (∃ e, testEntry s l 710 = .error e) ∧ (∃ c, testEntry s l 711 = .ok c) ∧
      i.items.drop i.cursor = [710] ++ 711 :: [] ∧ ⟨[700, 710, 711], 0⟩ = { i with cursor := 0 } ∧
      below.items.drop below.cursor = [710, 710] ∧ { l with interjections := [below, i] }.interjections = below :: [i] ∧
      l.faults + 2 ≤ 65535 ∧ (running [] 0).base = [] :=
  ⟨rfl, rfl, rfl, rfl, rfl, rfl, ⟨_, rfl⟩, ⟨_, rfl⟩, rfl, rfl, rfl, rfl, by decide, rfl⟩

/-- SINGLE_PASS with an entry that passes before the cursor and one that fails from the cursor on; LOOP where the entry
before the cursor is the last to fail. -/
theorem witness_RefillStagesTheFirstThatPasses_cursor :
    let s := withLane items87 .initial
    let l := { running [711, 710] 1 with mode := .singlePass }
    let loop := running [712, 710] 1
    l.state = .running ∧ l.slot = none ∧ l.passEnd = false ∧ l.interjections = [] ∧ l.base.drop l.cursor = [710] ∧
      testEntry s l 710 = .error .emptyItem ∧ (∃ c, testEntry s l 711 = .ok c) ∧
      loop.base.drop loop.cursor ++ loop.base.take loop.cursor = [710, 712] ∧
      testEntry s loop 712 = .error .emptyItem ∧ (refill s loop).1.lastFault = some (712, .emptyItem) :=
  ⟨rfl, rfl, rfl, rfl, rfl, rfl, ⟨_, rfl⟩, rfl, rfl, by decide +kernel⟩

/-- An entry for each fault, and one of each kind that passes. -/
theorem witness_RefillStagesTheFirstThatPasses_tests :
    let item (n : Nat) (i : Item) : State := withLane [(n, some i)] .initial
    let sep : ItemBody := .separator 0x2A 40
    let quote : ItemBody := .quote 17 ⟨true, true, true, true⟩
    itemAt State.reset 5 = none ∧ itemAt (item 5 ⟨1, 0, sep⟩) 5 = some ⟨1, 0, sep⟩ ∧
      LaneConfig.initial.defaultStyle = 0 ∧ styleAt (item 5 ⟨1, 9, sep⟩) 9 = none ∧
      styleAt (item 5 ⟨3, 1, sep⟩) 1 = some style150 ∧ style150.owner < max 3 Lane.initial.owner ∧
      max 2 Lane.initial.owner ≤ style150.owner ∧ 32768 < 32767 + 2 ∧ ¬32768 < 32767 + 1 ∧
      (item 5 ⟨1, 1, quote⟩).quote = QuoteUnit.initial ∧ symbolAt QuoteUnit.initial 17 = none ∧
      symbolAt (withSymbol qlm).quote 17 = some qlm := by decide +kernel

/-- Spec 07 R104, spec 04 R54, R56: the staging of a quotation in an undefined font counts each of its codes as missing, and
its slot width is the reserve and the paddings. -/
theorem witness_RefillStagesTheFirstThatPasses_quotation :
    let style := { style150 with reserve := 40 }
    let s : State := { withSymbol qlm with
      items := [(5, some ⟨1, 1, .quote 17 ⟨true, false, false, false⟩⟩)], styles := [(1, some style)]
      glyphs := GlyphStore.initial .zero }
    let l := running [5] 0
    let c : Candidate := { item := ⟨1, 1, .quote 17 ⟨true, false, false, false⟩⟩, itemNumber := 5, style := style, selector := 1 }
    testEntry s l 5 = .ok c ∧ s.glyphs.fonts.get 3 = none ∧ store10.fonts.get 0 = some font2 ∧
      (refill s l).2 = 3 ∧ (refill s l).1.slot.map Staged.width = some 340 := by
  refine ⟨rfl, by decide +kernel, by decide +kernel, by decide +kernel, by decide +kernel⟩

theorem witness_LaneStopDrainsOrCuts :
    Ready moving ∧ (3 : Byte).toNat ≤ 3 ∧ (dev 1).level ≤ (laneOf moving 3).owner ∧
      (laneOf moving 3).state = .running ∧ (laneOf moving 0).state = .draining ∧
      (laneOf State.reset 0).state = .idle := by decide

theorem witness_InterjectionsPushAndPop :
    let i : Interjection := ⟨[7, 8], 1⟩
    let l := { running [500, 501] 1 with slot := some { staged300 with position := some 0 } }
    let items : List Half := List.replicate 8 1023
    let s := withLane [] { l with interjections := [i, i] }
    Ready s ∧ (dev 1).level ≤ (laneOf s 0).owner ∧ items.length ≤ 8 ∧ (∀ n ∈ items, n.toNat ≤ 1023) ∧
      (laneOf State.reset 0).state ≠ .running ∧ l.state = .running ∧ 3 ≤ [i, i, i].length ∧
      l.interjections = [] ∧ l.slot.bind Staged.position = some 0 ∧
      (running [] 0).slot.bind Staged.position = none ∧ (laneOf s 0).interjections = i :: [i] ∧
      (laneOf s 0).interjections.length < 3 := by
  refine ⟨by decide, by decide, by decide, fun n h => ?_, by decide, by decide, by decide, by decide, by decide,
    by decide, by decide, by decide⟩
  rw [List.eq_of_mem_replicate h]
  decide

/-! ### Symbols and quotes -/

theorem witness_SymbolDefineMakesTheRecord :
    Ready (withSymbol qlm) ∧ (dev 1).level ≤ 1 ∧ ([1, 2, 3, 4, 5, 6, 7, 8] : List Byte).length = 8 ∧
      (511 : Half).toNat ≤ 511 ∧ symbolAt (withSymbol qlm).quote 511 = none ∧ (3 : Byte).toNat ≤ 3 ∧
      1 ≤ (8 : Byte).toNat ∧ (8 : Byte).toNat ≤ 8 ∧ (1 : Byte).toNat ≤ 1 ∧
      Table.wf none (withSymbol qlm).quote.symbols := by decide

/-- Symbol 17 halfway to UP_SMALL at a filter of 2. -/
def agreeing : Symbol :=
  { qlm with last := some 18677, change := 437, percent := some 240, computed := .upSmall, candidate := some .upSmall,
             agree := 1, age := 5 }

theorem witness_QuoteAppliesThePrice :
    let s := withSymbol agreeing
    Ready s ∧ (17 : Half).toNat ≤ 511 ∧ symbolAt s.quote (17 : Half).toNat = some agreeing ∧
      (dev 1).level ≤ agreeing.owner ∧ Table.wf none s.quote.symbols ∧ agreeing.reference ≠ 0 ∧
      agreeing.halted = false ∧ agreeing.reference < 99999999 ∧ 2 ≤ s.quote.classFilter ∧
      s.quote.classFilter ≤ agreeing.agree + 1 ∧ MoveClass.upSmall ≠ agreeing.displayed ∧
      agreeing.candidate = some .upSmall ∧ qlm.last = none ∧ agreeing.last = some 18677 ∧
      (withSymbol { agreeing with reference := 0 }).quote.classFilter = 2 ∧ QuoteUnit.initial.classFilter ≤ 1 := by
  decide

theorem witness_QuoteBatchIsItsQuotesInOrder :
    let s := withSymbol qlm
    Ready s ∧ (17 : Half).toNat ≤ 511 ∧ symbolAt s.quote (17 : Half).toNat = some qlm ∧ (dev 1).level ≤ qlm.owner ∧
      511 < (512 : Half).toNat ∧ symbolAt s.quote (511 : Half).toNat = none ∧ qlm.owner < (dev 2).level ∧
      (List.replicate 19 (⟨17, 5⟩ : PriceFields)).length ≤ 19 ∧
      ∃ t, exec (.quoteBatch (dev 1) [⟨17, 5⟩]) s = .next t :=
  ⟨by decide, by decide, by decide, by decide, by decide, by decide, by decide, by decide, ⟨_, rfl⟩⟩

theorem witness_ReferenceAndHaltRecompute :
    let s := withSymbol agreeing
    Ready s ∧ (17 : Half).toNat ≤ 511 ∧ symbolAt s.quote (17 : Half).toNat = some agreeing ∧
      (dev 1).level ≤ agreeing.owner ∧ Table.wf none s.quote.symbols ∧ (1 : Byte).toNat ≤ 1 ∧
      QuoteUnit.initial.classFilter ≤ 1 := by decide

/-- A filter of 2 with the class shown computed again, with a candidate that agrees for the first time, again, and a new
one. -/
theorem witness_ReferenceAndHaltRecompute_filter :
    let computed (x : Symbol) (price : Quad32) : Option MoveClass :=
      match exec (.reference (dev 1) ⟨17, price⟩) (withSymbol x) with
      | .next t => (symbolAt t.quote 17).map Symbol.computed
      | _ => none
    2 ≤ (withSymbol agreeing).quote.classFilter ∧ computed agreeing 18677 = some .flat ∧ agreeing.displayed = .flat ∧
      computed agreeing 18600 = some .upSmall ∧ agreeing.candidate = some .upSmall ∧ 2 ≤ agreeing.agree + 1 ∧
      ({ agreeing with agree := 0 } : Symbol).agree + 1 < 2 ∧
      computed agreeing 18700 = some .downSmall ∧ agreeing.candidate ≠ some .downSmall ∧
      computed agreeing 0 = some .upSmall ∧ computed { agreeing with halted := true } 0 = some .halted := by
  decide +kernel

theorem witness_MovementWriteReplacesTheEntry :
    Ready (withSymbol qlm) ∧ (dev 1).level ≤ 1 ∧ (1 : Byte).toNat ≤ 1 ∧ (5 : Byte).toNat ≤ 5 ∧
      (63 : Byte).toNat ≤ 63 ∧ Table.wf Movement.initial (withSymbol qlm).quote.movement := by decide

theorem witness_LimitsAndStaleFlagsStaySound :
    LimitsMatchFormat frameWaits ∧ StaleMatchesAge frameWaits ∧ SymbolsSound frameWaits ∧
      ∃ t, step frameWaits = .next t :=
  ⟨by decide, fun _ h => (List.not_mem_nil h).elim, ⟨fun _ h => (List.not_mem_nil h).elim, by decide⟩,
    witness_step_invariants⟩

/-! ### Keyer, guard unit, report unit -/

theorem witness_KeyCommandsSetTheWish :
    Ready State.reset ∧ (dev 1).level ≤ 1 ∧ State.reset.guard.state = .normal ∧ Ready guarded ∧
      guarded.guard.state ≠ .normal := by decide

theorem witness_GuardConfigSettlesTheCause :
    Ready State.reset ∧ (dev 0).level = 0 ∧ Cause.intakeOverrun ≠ .manual := by decide

/-- GUARD_CONFIG fades, cuts, withdraws the slate and releases; and one that changes nothing. -/
theorem witness_GuardConfigSettlesTheCause_directions :
    let s := atLoss .noSignal ⟨false, false, .slate⟩ false false
    let on (m a : Byte) := Instr.guardConfig (dev 0) ⟨0, 1, m, a⟩
    guardMoves (on 0 0) s .normal (.guarded .clear) true = true ∧
      guardMoves (on 1 1) s .normal (.guarded .slate) true = true ∧
      guardMoves (on 0 0) (atLoss .noSignal ⟨true, true, .slate⟩ true false) (.guarded .slate) (.guarded .clear) false =
        true ∧
      guardMoves (on 0 1) (atLoss .noSignal ⟨true, true, .clear⟩ true false) (.guarded .clear) (.guarded .slate) false =
        true ∧
      guardMoves (.guardConfig (dev 0) ⟨0, 0, 0, 1⟩) (atLoss .noSignal ⟨true, true, .slate⟩ true false)
        (.guarded .slate) .normal true = true := by decide +kernel

theorem witness_SlateConfigStoresAndResolves :
    let s := { beforeSlate with guard := { beforeSlate.guard with state := .guarded .slate } }
    Ready s ∧ (dev 0).level = 0 ∧ (1 : Byte).toNat ≤ 1 ∧ (1023 : Half).toNat ≤ 1023 ∧ (63 : Byte).toNat ≤ 63 ∧
      s.guard.state = .guarded .slate ∧ itemAt s (900 : Half).toNat = some { textItem with body := .text 0 30 } ∧
      (styleAt s (8 : Byte).toNat).isSome = true ∧ 0 + 30 ≤ 32768 ∧
      Ready beforeSlate ∧ beforeSlate.guard.state ≠ .guarded .slate := by decide +kernel

theorem witness_GuardSetJoinsManual :
    Ready beforeSlate ∧ (dev 1).level ≤ 1 ∧ beforeSlate.guard.state = .normal ∧
      beforeSlate.guard.active = .empty := by decide

theorem witness_GuardReleaseTakesCausesOut :
    Ready State.reset ∧ (dev 1).level ≤ 1 ∧ (∀ k, State.reset.guard.active.has k = false) ∧
      ∃ t, doGuardSet (dev 1) 1 0 beforeSlate = .ok t ∧ Ready t ∧ t.guard.active.has .manual = true ∧
        t.guard.state ≠ .normal := by
  refine ⟨by decide, by decide, fun k => ?_, ⟨_, rfl, by decide +kernel, by decide +kernel, by decide +kernel⟩⟩
  cases k <;> rfl

/-- GUARD_RELEASE from SLATE to NORMAL, from CLEAR to SLATE and from CLEAR to CLEAR. -/
theorem witness_GuardReleaseTakesCausesOut_directions :
    let held (a : Action) (s : State) : State :=
      let g := { s.guard with
        manual := true, manualAction := some a, active := { s.guard.active with manual := true } }
      { s with guard := { g with state := guardStateOf g } }
    guardMoves (.guardRelease (dev 1)) (held .slate State.reset) (.guarded .slate) .normal true = true ∧
      guardMoves (.guardRelease (dev 1)) (held .clear (atLoss .noSignal ⟨true, false, .slate⟩ true false))
        (.guarded .clear) (.guarded .slate) true = true ∧
      guardMoves (.guardRelease (dev 1)) (held .slate (atLoss .noSignal ⟨true, false, .clear⟩ true false))
        (.guarded .clear) (.guarded .clear) true = true := by decide +kernel

theorem witness_QueryAppendsOneReply :
    let s := { State.reset with report := ⟨List.replicate 7 ⟨0, []⟩, none⟩ }
    let u := { State.reset with report := ⟨List.replicate 8 ⟨0, []⟩, none⟩ }
    let size (k : Byte) : Option Nat := [64, 1024, 512, 4, 4, 1024, 12, 64][k.toNat]?
    Ready s ∧ size 7 = some 64 ∧ { dev 0 with route := .all }.route ≠ .device ∧ 8 ≤ (8 : Byte).toNat ∧
      (dev 3).route = .device ∧ 64 ≤ (64 : Half).toNat ∧ (63 : Half).toNat < 64 ∧ s.report.replies.length < 8 ∧
      8 ≤ u.report.replies.length ∧ size 6 = some 12 ∧ (11 : Half).toNat < 12 := by decide

/-- An object of each kind, present and absent. -/
theorem witness_QueryAppendsOneReply_objects :
    let s := { withLane [(1023, some textItem)] .initial with quote := (withSymbol qlm).quote, glyphs := store10 }
    Ready s ∧ styleAt s 63 = none ∧ styleAt s 1 = some style150 ∧ itemAt s 0 = none ∧ itemAt s 1023 = some textItem ∧
      symbolAt s.quote 511 = none ∧ symbolAt s.quote 17 = some qlm ∧ s.glyphs.fonts.get 3 = none ∧
      s.glyphs.fonts.get 0 = some font2 ∧ [64, 1024, 512, 4, 4, 1024, 12, 64][5]? = some 1024 := by decide +kernel

theorem witness_GuardAndKeyStaySound :
    let s := { guarded with pending := [.outputFrameStart []] }
    GuardFollowsCauses s ∧ SlateOnlyWhenSlate s ∧ KeySound s ∧ ∃ t, step s = .next t :=
  ⟨by decide, by decide, by decide, ⟨_, rfl⟩⟩

end Sys2Proof.Tests
end

section
/-! PROOFS. Intake and the command engine: the drop of a packet that meets a full queue or a set latch (spec 02 R19,
R20), and the address straps, which no command moves (spec 02 R15). -/

namespace Sys2Proof.Machine

open Sys2Proof

/-! ## Arrival and drop of a packet -/

/-- A matching packet is offered to the queue, damaged or not (spec 02 R16). -/
theorem arrive_of_route (p : Found) (r : Route) (a : Byte) (rest : List Byte) (s : State) (hk : p.kind = .control)
    (hb : p.bytes = a :: rest) (hr : routeOf s a.toNat = some r) : arrive p s = offer (entryOfPacket r p) s := by
  simp [arrive, hk, hb, hr]

/-- An enabled cause that is not in the set joins at its onset, with one recomputation (spec 11 R170). -/
theorem causeOnset_of_joins (k : Cause) (s : State) (he : (causeConfig s.guard k).enabled = true)
    (hn : s.guard.active.has k = false) : causeOnset k s = recompute (markCause k true s) := by
  simp [causeOnset, he, hn]

/-- The onset of a cause that is disabled or in the set already changes nothing (spec 11 R170). -/
theorem causeOnset_of_stays (k : Cause) (s : State)
    (h : (causeConfig s.guard k).enabled = false ∨ s.guard.active.has k = true) : causeOnset k s = s := by
  rcases h with h | h <;> simp [causeOnset, h]

/-- What every drop does: it is counted, wrapping, and the overrun latch is set (spec 02 R19). -/
def countDrop (s : State) : State :=
  { s with intake := { s.intake with dropped := s.intake.dropped + 1, latch := true } }

/-- INTAKE_OVERRUN joins at a drop: the drop sets the latch, the cause is enabled, and it is not in the set yet (spec 02
R20, spec 11 R170). -/
abbrev OverrunJoins (s : State) : Prop :=
  s.intake.latch = false ∧ s.guard.intakeOverrun.enabled = true ∧ s.guard.active.intakeOverrun = false

theorem dropPacket_of_joins (s : State) (h : OverrunJoins s) :
    dropPacket s = recompute (markCause .intakeOverrun true (countDrop s)) := by
  obtain ⟨hl, he, hn⟩ := h
  simp only [dropPacket, hl]
  exact causeOnset_of_joins .intakeOverrun (countDrop s) he hn

theorem dropPacket_of_stays (s : State) (h : ¬OverrunJoins s) : dropPacket s = countDrop s := by
  cases hl : s.intake.latch with
  | true => simp [dropPacket, countDrop, hl]
  | false =>
    simp only [dropPacket, hl]
    refine causeOnset_of_stays .intakeOverrun (countDrop s) ?_
    show s.guard.intakeOverrun.enabled = false ∨ s.guard.active.intakeOverrun = true
    cases he : s.guard.intakeOverrun.enabled <;> cases hn : s.guard.active.intakeOverrun <;> simp_all

/-- The set after a drop: INTAKE_OVERRUN is in it where it was, or where the drop sets the latch and it is enabled
(spec 02 R20). -/
def activeAfterDrop (s : State) : CauseSet :=
  { s.guard.active with intakeOverrun :=
      s.guard.active.intakeOverrun || (!s.intake.latch && s.guard.intakeOverrun.enabled) }

/-- INTAKE_OVERRUN joins exactly where the set after the drop is another. -/
theorem activeAfterDrop_eq_iff (s : State) : activeAfterDrop s = s.guard.active ↔ ¬OverrunJoins s := by
  rcases hc : s.guard.active with ⟨a, b, c, d⟩
  cases c <;> simp [activeAfterDrop, OverrunJoins, hc]

theorem activeAfterDrop_of_joins (s : State) (h : OverrunJoins s) :
    activeAfterDrop s = s.guard.active.put .intakeOverrun true := by
  obtain ⟨hl, he, _⟩ := h
  simp [activeAfterDrop, CauseSet.put, hl, he]

/-- What a dropped packet leaves (spec 02 R19, R20, spec 11 R174, R175). -/
theorem dropPacket_effect (s : State) :
    (dropPacket s).intake = (countDrop s).intake ∧ (dropPacket s).engine = s.engine ∧
    (dropPacket s).guard.active = activeAfterDrop s ∧
    ((dropPacket s).guard.active = s.guard.active →
      (dropPacket s).guard = s.guard ∧ (dropPacket s).keyer = s.keyer ∧ (dropPacket s).glyphs = s.glyphs) ∧
    ((dropPacket s).guard.active ≠ s.guard.active → GuardActs s (dropPacket s)) ∧
    dropPacket s = { s with
      intake := (dropPacket s).intake
      guard := (dropPacket s).guard
      keyer := (dropPacket s).keyer
      glyphs := (dropPacket s).glyphs } := by
  by_cases h : OverrunJoins s
  · have hact : GuardActs s (dropPacket s) := by
      rw [dropPacket_of_joins s h]
      exact recompute_acts (countDrop s) (s.guard.active.put .intakeOverrun true)
    obtain ⟨r, f, n, k, hf, _⟩ := recompute_frame (markCause .intakeOverrun true (countDrop s))
    rw [← dropPacket_of_joins s h] at hf
    have hset : (dropPacket s).guard.active = activeAfterDrop s := by
      rw [hf, activeAfterDrop_of_joins s h]; rfl
    refine ⟨by rw [hf]; rfl, by rw [hf]; rfl, hset, fun he => ?_, fun _ => hact, by rw [hf]; rfl⟩
    exact absurd h ((activeAfterDrop_eq_iff s).1 (hset ▸ he))
  · have hset := (activeAfterDrop_eq_iff s).2 h
    rw [dropPacket_of_stays s h]
    exact ⟨rfl, rfl, hset.symm, fun _ => ⟨rfl, rfl, rfl⟩, fun hne => absurd rfl hne, rfl⟩

/-- Settles O19: the arrival is the drop, by whether INTAKE_OVERRUN joins at it. -/
theorem overrunDropsAndCounts : Obligations.OverrunDropsAndCounts := by
  intro p r a rest s hrun hk hb hr hfull
  refine ⟨dropPacket s, ?_, dropPacket_effect s⟩
  calc exec (.packetArrival p) s = .next (arrive p s) := whileRunning_high _ s hrun
    _ = .next (offer (entryOfPacket r p) s) := by rw [arrive_of_route p r a rest s hk hb hr]
    _ = .next (dropPacket s) := by rw [offer_full _ s hfull]

/-! ## The pins -/

@[simp] theorem recompute_pins (s : State) : (recompute s).pins = s.pins := by
  obtain ⟨r, f, n, k, h, _⟩ := recompute_frame s
  rw [h]

@[simp] theorem resolveSlate_pins (s : State) : (resolveSlate s).pins = s.pins := by
  obtain ⟨r, f, n, h⟩ := resolveSlate_frame s
  rw [h]

@[simp] theorem causeOnset_pins (k : Cause) (s : State) : (causeOnset k s).pins = s.pins := by
  rcases causeOnset_cases k s with h | h <;> simp [h]

@[simp] theorem changeInput_pins (u : InputUnit) (s : State) : (changeInput u s).pins = s.pins := by
  rcases changeInput_cases u s with h | ⟨b, h⟩ <;> simp [h]

@[simp] theorem refillLane_pins (m : Nat) (l : Lane) (s : State) : (refillLane m l s).pins = s.pins := rfl

@[simp] theorem setCauseConfig_pins (k : Cause) (c : CauseConfig) (s : State) :
    (setCauseConfig k c s).pins = s.pins := by
  cases k <;> rfl

@[simp] theorem resetRunEffect_pins (s : State) : (resetRunEffect s).pins = s.pins := recompute_pins _

@[simp] theorem resetAllEffect_pins (s : State) : (resetAllEffect s).pins = s.pins := recompute_pins _

@[simp] theorem applyQuote_pins (symbol : Half) (price : Quad32) (x : Symbol) (s : State) :
    (applyQuote symbol price x s).pins = s.pins := rfl

@[simp] theorem batchPair_pins (h : Header) (f : PriceFields) (s : State) : (batchPair h f s).pins = s.pins := by
  simp only [batchPair]; split <;> rfl

@[simp] theorem batchPairs_pins (h : Header) (fs : List PriceFields) (s : State) :
    (batchPairs h fs s).pins = s.pins := by
  induction fs generalizing s with
  | nil => rfl
  | cons f fs ih => exact (ih _).trans (batchPair_pins h f s)

/-- The outcome of a command keeps the pins of `s`: applied, it leaves them; refused, it answers no state. -/
def KeepsPins (s : State) (r : Except Reason State) : Prop := ∀ t, r = .ok t → t.pins = s.pins

@[simp] theorem keepsPins_error (s : State) (r : Reason) : KeepsPins s (.error r) := fun _ h => nomatch h

@[simp] theorem keepsPins_ok (s t : State) : KeepsPins s (.ok t) ↔ t.pins = s.pins := by simp [KeepsPins]

/-- No command moves the pins (spec 02 R15): each branch of a command is a refusal, or a write to the command's own
unit, or one of the updates above. -/
theorem runCommand_keepsPins (h : Header) (c : Command) (s : State) : KeepsPins s (runCommand h c s) := by
  cases c with
  | reset _ | deviceConfig _ =>
    simp only [runCommand, doReset, doDeviceConfig]
    (repeat' split) <;> simp
  | fontDefine _ | fontClear _ | glyphMetrics _ | glyphRows _ | codeMapWrite _ =>
    simp only [runCommand, doFontDefine, doFontClear, doGlyphMetrics, doGlyphRows, doCodeMapWrite]
    (repeat' split) <;> simp
  | paletteWrite _ _ | styleWrite _ | styleDrop _ | textWrite _ _ | itemWrite _ | itemDrop _ =>
    simp only [runCommand, doPaletteWrite, doStyleWrite, doStyleDrop, doTextWrite, doItemWrite, doItemDrop]
    (repeat' split) <;> simp
  | playlistWrite _ _ | playlistAppend _ _ | laneConfig _ | laneStart _ _ _ | laneStop _ _ | laneSpeed _ _ _ =>
    simp only [runCommand, doPlaylistWrite, doPlaylistAppend, doLaneConfig, doLaneStart, doLaneStop, doLaneSpeed]
    (repeat' split) <;> simp
  | interject _ _ | interjectCancel _ =>
    simp only [runCommand, doInterject, doInterjectCancel]
    (repeat' split) <;> simp
  | symbolDefine _ | symbolDrop _ | quote _ | quoteBatch _ | reference _ | halt _ _ | movementWrite _ =>
    simp only [runCommand, doSymbolDefine, doSymbolDrop, doQuote, doQuoteBatch, doReference, doHalt, doMovementWrite]
    (repeat' split) <;> simp
  | keyOn | keyOff =>
    simp only [runCommand, doKeyOn, doKeyOff, doKeyWish]
    (repeat' split) <;> simp
  | guardConfig _ | slateConfig _ | guardSet _ _ | guardRelease =>
    simp only [runCommand, doGuardConfig, doSlateConfig, doGuardSet, doGuardRelease]
    (repeat' split) <;> simp
  | query _ _ =>
    simp only [runCommand, doQuery]
    (repeat' split) <;> simp

@[simp] theorem takeCommand_pins (h : Header) (c : Command) (s : State) : (takeCommand h c s).pins = s.pins := by
  rcases takeCommand_cases h c s with ⟨_, hr⟩ | ⟨r, hr⟩
  · exact runCommand_keepsPins h c s _ hr
  · rw [hr, refuse_pins]

@[simp] theorem takeEntry_pins (e : Entry) (s : State) : (takeEntry e s).pins = s.pins := by
  rcases takeEntry_cases e s with ⟨r, he⟩ | ⟨c, _, _, he⟩ <;> simp [he]

@[simp] theorem removeOldest_pins (rest : List Entry) (s : State) : (removeOldest rest s).pins = s.pins := by
  obtain ⟨b, a, h⟩ := removeOldest_frame rest s
  rw [h]

@[simp] theorem settleTaking_pins (before : CauseSet) (removed s : State) :
    (settleTaking before removed s).pins = s.pins := by
  rcases settleTaking_cases before removed s with h | h <;> simp [h]

@[simp] theorem takeOldest_pins (s : State) : (takeOldest s).pins = s.pins := by
  simp only [takeOldest]; split <;> simp

@[simp] theorem dropPacket_pins (s : State) : (dropPacket s).pins = s.pins := by
  obtain ⟨_, _, _, _, _, h⟩ := dropPacket_effect s
  have hp := congrArg State.pins h
  exact hp

@[simp] theorem offer_pins (e : Entry) (s : State) : (offer e s).pins = s.pins := by
  simp only [offer]; split <;> simp

/-- A command's packet leaves the pins, whether the command is taken, waits or is dropped, and whichever entry is taken
at its arrival (spec 02 R18 to R21). -/
@[simp] theorem submit_pins (h : Header) (c : Command) (s : State) : (submit h c s).pins = s.pins := by
  simp only [submit]; split <;> simp

/-! ## The device address -/

theorem deviceAddress_congr (s t : State) (h : t.pins = s.pins) : deviceAddress t = deviceAddress s := by
  simp [deviceAddress, h]

theorem deviceAddress_eq (s : State) : deviceAddress s = if s.pins.straps = 31 then 30 else s.pins.straps.toNat := by
  have h : s.pins.straps.toNat = 31 ↔ s.pins.straps = 31 := BitVec.toNat_inj (y := 31)
  simp only [deviceAddress, h]

/-- No device address is 31, the all-device address (spec 02 R15). -/
theorem deviceAddress_le (s : State) : deviceAddress s ≤ 30 := by
  have h := s.pins.straps.isLt
  simp only [deviceAddress]; split <;> omega

/-- A command row leaves the device address, at a ready state and at any other. -/
theorem deviceAddress_of_submit (h : Header) (c : Command) (s t : State)
    (ht : whileRunning (submit h c) s = .next t) : deviceAddress t = deviceAddress s := by
  cases ht
  split
  · rfl
  · exact deviceAddress_congr s _ (submit_pins h c s)

/-- Settles O29: RESET and DEVICE_CONFIG leave the pins, and the address is read from the pins alone. -/
theorem deviceAddressIsStrapped : Obligations.DeviceAddressIsStrapped := by
  refine ⟨deviceAddress_eq, deviceAddress_le, fun _ _ => rfl, fun h f s t ht => ?_⟩
  rcases ht with ht | ht | ht
  · exact deviceAddress_of_submit h (.reset 0) s t ht
  · exact deviceAddress_of_submit h (.reset 1) s t ht
  · exact deviceAddress_of_submit h (.deviceConfig f) s t ht

end Sys2Proof.Machine
end

section
/-! PROOFS. The speed of a lane and its increment (spec 07 R105 to R107): what each operation leaves of the two speeds and
the increment, the stages that set them at an output frame start, and that every step keeps the increment in step with the
speed and the output format. -/

namespace Sys2Proof.Machine

open Sys2Proof

/-! ## Four-fold carriers -/

theorem Quad.map_set {α β : Type} (f : α → β) (q : Quad α) (n : Nat) (a : α) :
    (q.set n a).map f = (q.map f).set n (f a) := by
  match n with
  | 0 | 1 | 2 => rfl
  | _ + 3 => rfl

@[simp] theorem Quad.set_get {α : Type} (q : Quad α) (n : Nat) : q.set n (q.get n) = q := by
  match n with
  | 0 | 1 | 2 => rfl
  | _ + 3 => rfl

theorem Quad.exists_get_of_mem {α : Type} (q : Quad α) (a : α) (h : a ∈ q.toList) : ∃ m : Fin 4, q.get m = a := by
  simp only [Quad.toList, List.mem_cons, List.not_mem_nil, or_false] at h
  rcases h with h | h | h | h
  · exact ⟨0, h.symm⟩
  · exact ⟨1, h.symm⟩
  · exact ⟨2, h.symm⟩
  · exact ⟨3, h.symm⟩

theorem Quad.get_all {α : Type} (a : α) (n : Nat) : (Quad.all a).get n = a := by
  match n with
  | 0 | 1 | 2 => rfl
  | _ + 3 => rfl

theorem Quad.eq_of_mem_all {α : Type} (a b : α) (h : b ∈ (Quad.all a).toList) : b = a := by
  obtain ⟨m, rfl⟩ := Quad.exists_get_of_mem _ b h
  exact Quad.get_all a m

/-! ## The motion of a lane -/

/-- What spec 07 R105 to R107 speak of in a lane. -/
structure Motion where
  speed : Nat
  target : Nat
  increment : Nat

def Lane.motion (l : Lane) : Motion := { speed := l.speed, target := l.target, increment := l.increment }

def Motion.zero : Motion := { speed := 0, target := 0, increment := 0 }

/-- The increment is that of the speed at a format (spec 07 R107). -/
def Motion.Matches (f : Format) (v : Motion) : Prop := v.increment = incrementOf v.speed f

/-- Both speeds lie within 0..960 (spec 07 R105, R107). -/
def Motion.InRange (v : Motion) : Prop := v.speed ≤ 960 ∧ v.target ≤ 960

theorem incrementOf_zero (f : Format) : incrementOf 0 f = 0 := by cases f <;> rfl

theorem Motion.zero_matches (f : Format) : Motion.zero.Matches f := (incrementOf_zero f).symm

theorem Motion.zero_inRange : Motion.zero.InRange := ⟨Nat.zero_le _, Nat.zero_le _⟩

/-- At most 960 pps at 50 Hz, the slowest of the frame rates (spec 07 R107). -/
theorem incrementOf_le (v : Nat) (h : v ≤ 960) (f : Format) : incrementOf v f ≤ 1258291 := by
  cases f <;> simp only [incrementOf, periodN, periodD, formatStructure] <;> omega

/-! ## The motions of the four lanes -/

def motions (s : State) : Quad Motion := s.lanes.map Lane.motion

@[simp] theorem motions_get (s : State) (m : Nat) : (motions s).get m = (laneOf s m).motion :=
  Quad.get_map Lane.motion s.lanes m

theorem motions_setLane (s : State) (m : Nat) (l : Lane) : motions (setLane s m l) = (motions s).set m l.motion :=
  Quad.map_set Lane.motion s.lanes m l

/-- The second state is like the first in the output format and in the motion of every lane. -/
def SameMotion (s t : State) : Prop := t.timing.format = s.timing.format ∧ motions t = motions s

theorem SameMotion.refl (s : State) : SameMotion s s := ⟨rfl, rfl⟩

theorem SameMotion.trans {s t u : State} (h : SameMotion s t) (k : SameMotion t u) : SameMotion s u :=
  ⟨k.1.trans h.1, k.2.trans h.2⟩

theorem SameMotion.of_lanes {s t : State} (hf : t.timing.format = s.timing.format) (hl : t.lanes = s.lanes) :
    SameMotion s t := ⟨hf, by simp [motions, hl]⟩

theorem SameMotion.of_setLane (s : State) (m : Nat) (l : Lane) (h : l.motion = (laneOf s m).motion) :
    SameMotion s (setLane s m l) :=
  ⟨rfl, by rw [motions_setLane, h, ← motions_get, Quad.set_get]⟩

/-- The increments follow the speeds and the output format, and the speeds are in range (spec 07 R107). -/
def MotionsSound (s : State) : Prop := ∀ v ∈ (motions s).toList, v.Matches s.timing.format ∧ v.InRange

theorem motionsSound_iff (s : State) : MotionsSound s ↔
    IncrementsMatch s ∧ ∀ l ∈ s.lanes.toList, l.speed ≤ 960 ∧ l.target ≤ 960 := by
  have hlist : (motions s).toList = s.lanes.toList.map Lane.motion := rfl
  rw [MotionsSound, hlist, List.forall_mem_map]
  exact ⟨fun h => ⟨fun l hl => (h l hl).1, fun l hl => (h l hl).2⟩, fun ⟨hm, hr⟩ l hl => ⟨hm l hl, hr l hl⟩⟩

theorem MotionsSound.of_same {s t : State} (h : MotionsSound s) (k : SameMotion s t) : MotionsSound t := by
  rw [MotionsSound, k.1, k.2]; exact h

theorem MotionsSound.of_setLane {s : State} (h : MotionsSound s) (m : Nat) (l : Lane)
    (hm : l.motion.Matches s.timing.format) (hr : l.motion.InRange) : MotionsSound (setLane s m l) := by
  intro v hv
  rw [motions_setLane] at hv
  rcases Quad.mem_set _ _ _ _ hv with rfl | hv
  · exact ⟨hm, hr⟩
  · exact h v hv

theorem MotionsSound.lane {s : State} (h : MotionsSound s) (m : Nat) :
    (laneOf s m).motion.Matches s.timing.format ∧ (laneOf s m).motion.InRange :=
  motions_get s m ▸ h _ (Quad.get_mem _ m)

/-- Lanes at a standstill are sound at any format. -/
theorem motionsSound_of_zero (s : State) (h : motions s = .all .zero) : MotionsSound s := by
  intro v hv
  rw [h] at hv
  rw [Quad.eq_of_mem_all _ v hv]
  exact ⟨Motion.zero_matches _, Motion.zero_inRange⟩

/-! ## What the guard unit leaves -/

@[simp] theorem recompute_lanes (s : State) : (recompute s).lanes = s.lanes := by
  obtain ⟨r, f, n, k, h, _⟩ := recompute_frame s
  rw [h]

@[simp] theorem recompute_timing (s : State) : (recompute s).timing = s.timing := by
  obtain ⟨r, f, n, k, h, _⟩ := recompute_frame s
  rw [h]

@[simp] theorem resolveSlate_lanes (s : State) : (resolveSlate s).lanes = s.lanes := by
  obtain ⟨r, f, n, h⟩ := resolveSlate_frame s
  rw [h]

@[simp] theorem resolveSlate_timing (s : State) : (resolveSlate s).timing = s.timing := by
  obtain ⟨r, f, n, h⟩ := resolveSlate_frame s
  rw [h]

@[simp] theorem setCauseConfig_lanes (k : Cause) (c : CauseConfig) (s : State) :
    (setCauseConfig k c s).lanes = s.lanes := by
  cases k <;> rfl

@[simp] theorem setCauseConfig_timing (k : Cause) (c : CauseConfig) (s : State) :
    (setCauseConfig k c s).timing = s.timing := by
  cases k <;> rfl

theorem sameMotion_recompute (s : State) : SameMotion s (recompute s) := .of_lanes (by simp) (by simp)

theorem sameMotion_guardEvaluate (s : State) : SameMotion s (guardEvaluate s) := by
  rcases guardEvaluate_cases s with h | ⟨b, h⟩ <;> rw [h]
  · exact .refl s
  · exact sameMotion_recompute (markCause .feedLoss b s)

theorem sameMotion_joinPresent (s : State) : SameMotion s (joinPresent s) := .of_lanes
  (congrArg OutputTiming.format (recompute_timing _)) (recompute_lanes _)

/-! ## What a change of the input unit leaves -/

@[simp] theorem changeInput_lanes (u : InputUnit) (s : State) : (changeInput u s).lanes = s.lanes := by
  rcases changeInput_cases u s with h | ⟨b, h⟩ <;> simp [h]

/-- A change of the input unit sets the timing mode, not the output format (spec 01 R7). -/
@[simp] theorem changeInput_format (u : InputUnit) (s : State) :
    (changeInput u s).timing.format = s.timing.format := by
  rcases changeInput_cases u s with h | ⟨b, h⟩ <;> simp [h]

theorem sameMotion_changeInput (u : InputUnit) (s : State) : SameMotion s (changeInput u s) :=
  .of_lanes (changeInput_format u s) (changeInput_lanes u s)

/-- A followed frame waits with its format; the output format is as it was (spec 01 R7, R8). -/
theorem sameMotion_followFrame (f : Format) (blanking : List Line) (before : InputState) (s : State) :
    SameMotion s (followFrame f blanking before s) := by
  obtain ⟨starts, h, _⟩ := followFrame_frame f blanking before s
  rw [h]
  exact ⟨rfl, rfl⟩

/-! ## What staging leaves -/

@[simp] theorem recordFaults_motion (l : Lane) (fs : List (Nat × StagingFault)) :
    (recordFaults l fs).motion = l.motion := by
  obtain ⟨n, r, h, _⟩ := recordFaults_frame l fs
  rw [h]
  rfl

/-- The base context's walk, by the mode, the emptiness of the list and the hit: each case is a write over the lane with
the faults recorded (spec 07 R102, R103). -/
theorem refillBase_motion (s : State) (l : Lane) : (refillBase s l).1.motion = l.motion := by
  unfold refillBase
  split <;> split
  · rfl
  · dsimp only; split <;> exact recordFaults_motion l _
  · rfl
  · dsimp only; split <;> exact recordFaults_motion l _

theorem refillContexts_motion (s : State) (is : List Interjection) (l : Lane) :
    (refillContexts s l is).1.motion = l.motion := by
  induction is generalizing l with
  | nil => exact refillBase_motion s _
  | cons i is ih =>
    simp only [refillContexts]
    split
    · rw [ih, recordFaults_motion]
    · split <;> exact recordFaults_motion l _

@[simp] theorem refill_motion (s : State) (l : Lane) : (refill s l).1.motion = l.motion := by
  unfold refill
  split
  · rfl
  · split
    · rfl
    · exact refillContexts_motion s _ l

theorem SameMotion.of_refillLane (s : State) (m : Nat) (l : Lane) (h : l.motion = (laneOf s m).motion) :
    SameMotion s (refillLane m l s) := .of_setLane s m (refill s l).1 ((refill_motion s l).trans h)

@[simp] theorem setBack_motion (l : Lane) (index : Nat) : (setBack l index).motion = l.motion := by
  unfold setBack; split <;> rfl

@[simp] theorem returnStaged_motion (l : Lane) : (returnStaged l).motion = l.motion := by
  unfold returnStaged
  split
  · rfl
  · split
    · rfl
    · exact setBack_motion _ _

@[simp] theorem pushInterjection_motion (l : Lane) (items : List Nat) : (pushInterjection l items).motion = l.motion :=
  returnStaged_motion l

@[simp] theorem drainLane_motion (l : Lane) : (drainLane l).motion = l.motion := by
  unfold drainLane; split <;> rfl

/-! ## The stages of an output frame start -/

theorem rampSpeed_le (speed target step n : Nat) (hs : speed ≤ n) (ht : target ≤ n) :
    rampSpeed speed target step ≤ n := by
  unfold rampSpeed
  split
  · exact ht
  · have hstep := (stepToward_bounds speed target step).2
    omega

@[simp] theorem motionStage_motion (l : Lane) : (motionStage l).motion = l.motion := by
  unfold motionStage; split <;> rfl

@[simp] theorem placeLoop_motion (s : State) (fuel : Nat) (l : Lane) : (placeLoop s fuel l).1.motion = l.motion := by
  induction fuel generalizing l with
  | zero => rfl
  | succ fuel ih =>
    unfold placeLoop
    split
    · rfl
    · split
      · exact (ih _).trans (refill_motion s _)
      · rfl

@[simp] theorem countCrowded_motion (l : Lane) : (countCrowded l).motion = l.motion := by
  unfold countCrowded; split <;> rfl

@[simp] theorem placementStage_motion (s : State) (l : Lane) : (placementStage s l).1.motion = l.motion := by
  unfold placementStage
  split
  · rfl
  · simp

@[simp] theorem drainStage_motion (l : Lane) : (drainStage l).motion = l.motion := by
  unfold drainStage; split <;> rfl

/-- The speed that stage 3 reads: a held lane makes no ramp (spec 07 R106, R115). -/
def speedAtStart (held : Bool) (l : Lane) : Nat := if held then l.speed else rampSpeed l.speed l.target l.step

/-- Stage 2 moves the speed, stage 3 computes the increment, and the stages after leave both (spec 07 R114, R115). -/
theorem laneStages_motion (s : State) (held : Bool) (l : Lane) : (laneStages s held l).1.motion =
    { speed := speedAtStart held l, target := l.target
      increment := incrementOf (speedAtStart held l) s.timing.format } := by
  cases held with
  | true => rfl
  | false =>
    calc (laneStages s false l).1.motion
      _ = (removalStage (motionStage (incrementStage s.timing.format
            (rampStage (configStage s.timing.format l))))).motion :=
          (drainStage_motion _).trans (placementStage_motion s _)
      _ = (incrementStage s.timing.format (rampStage (configStage s.timing.format l))).motion := motionStage_motion _

theorem laneStages_matches (s : State) (held : Bool) (l : Lane) :
    (laneStages s held l).1.motion.Matches s.timing.format := by
  rw [laneStages_motion]; rfl

theorem laneStages_inRange (s : State) (held : Bool) (l : Lane) (h : l.motion.InRange) :
    (laneStages s held l).1.motion.InRange := by
  obtain ⟨hs, ht⟩ := h
  rw [laneStages_motion]
  refine ⟨?_, ht⟩
  cases held with
  | true => exact hs
  | false => exact rampSpeed_le _ _ _ _ hs ht

/-! ## What the drawing of a line leaves -/

theorem judgeEntry_motion (g : GlyphStore) (l : Lane) (e : SnapEntry) : (judgeEntry g l e).1.motion = l.motion := by
  unfold judgeEntry; split <;> rfl

theorem judgeEntries_motion (g : GlyphStore) (es : List SnapEntry) (l : Lane) :
    (judgeEntries g l es).1.motion = l.motion := by
  induction es generalizing l with
  | nil => rfl
  | cons e es ih => exact (ih _).trans (judgeEntry_motion g l e)

@[simp] theorem judgeLane_motion (g : GlyphStore) (line : Nat) (l : Lane) (sn : Snapshot) :
    (judgeLane g line l sn).1.motion = l.motion := by
  unfold judgeLane
  split
  · exact judgeEntries_motion g _ l
  · rfl

theorem sameMotion_countClipping (line : Nat) (s : State) : SameMotion s (countClipping line s) := by
  unfold countClipping
  split
  · exact .refl s
  · exact ⟨rfl, by simp [motions, judgeLanes, Quad.map]⟩

theorem sameMotion_mixLine (pal : Palette) (fr : OutFrame) (line : Nat) (programme : Option (List Pixel)) (s : State) :
    SameMotion s (mixLine pal fr line programme s) := sameMotion_countClipping line s

theorem sameMotion_overtakeLine (ending : State) (programme : Option (List Pixel)) (s : State) :
    SameMotion s (overtakeLine ending programme s) := by
  rcases overtakeLine_cases ending programme s with h | ⟨fr, _, _, h⟩ <;> rw [h]
  · exact .refl s
  · exact sameMotion_mixLine _ _ _ _ s

theorem sameMotion_drawLine (programme : Option (List Pixel)) (s : State) : SameMotion s (drawLine programme s) := by
  unfold drawLine
  split
  · exact .refl s
  · split
    · exact sameMotion_countClipping _ s
    · exact .refl s

/-! ## The acts of an output frame start -/

theorem laneOf_laneAct_same (m : Nat) (s : State) :
    laneOf (laneAct m s) m = (laneStages s (isGuarded s) (laneOf s m)).1 := laneOf_setLane_same s m _

theorem laneOf_laneAct_other (m n : Fin 4) (s : State) (h : n ≠ m) : laneOf (laneAct m s) n = laneOf s n :=
  laneOf_setLane_other s m n _ (by omega)

/-- An act is a lane's stages, or leaves the format and every lane's motion (spec 01 R9). -/
theorem makeAct_cases (changed : Bool) (a : FrameAct) (r : FrameRun) :
    (∃ m, a = .lane m ∧ (makeAct changed a r).state = laneAct m r.state) ∨
      (∀ m, a ≠ .lane m) ∧ SameMotion r.state (makeAct changed a r).state := by
  cases a with
  | lane m => exact .inl ⟨m, rfl, rfl⟩
  | snapshot m => exact .inr ⟨nofun, .refl _⟩
  | quote => exact .inr ⟨nofun, rfl, rfl⟩
  | guard => exact .inr ⟨nofun, sameMotion_guardEvaluate _⟩
  | keyer => exact .inr ⟨nofun, rfl, rfl⟩
  | report => exact .inr ⟨nofun, .refl _⟩
  | line programme => exact .inr ⟨nofun, sameMotion_overtakeLine _ programme _⟩

/-- The acts keep what one act that may be made keeps. -/
theorem makeActs_keeps (P : FrameRun → Prop) (changed : Bool)
    (hP : ∀ a r, P r → P { makeAct changed a r with done := a :: r.done }) (as : List FrameAct) (r : FrameRun)
    (h : P r) : P (makeActs changed as r) := by
  induction as generalizing r with
  | nil => exact h
  | cons a as ih =>
    unfold makeActs
    refine ih _ ?_
    split
    · exact hP a r h
    · exact h

/-- A lane that is named has made its stages at the end of the acts. -/
theorem lane_mem_done_makeActs (changed : Bool) (m : Fin 4) (as : List FrameAct) (r : FrameRun)
    (h : FrameAct.lane m ∈ as) : FrameAct.lane m ∈ (makeActs changed as r).done := by
  induction as generalizing r with
  | nil => cases h
  | cons a as ih =>
    unfold makeActs
    rcases List.mem_cons.1 h with rfl | h
    · refine makeActs_keeps (fun r => FrameAct.lane m ∈ r.done) changed (fun a r hr => List.mem_cons_of_mem a hr) as _ ?_
      split
      · exact List.mem_cons_self
      · rename_i hd; simpa [mayAct] using hd
    · exact ih _ h

theorem lane_mem_defaultOrder : ∀ m : Fin 4, FrameAct.lane m ∈ defaultOrder := by decide

/-- The output format is `f`, and each lane that has made its stages has the increment of its speed (spec 07 R107). -/
def DoneLanesMatch (f : Format) (r : FrameRun) : Prop :=
  r.state.timing.format = f ∧
    ∀ m : Fin 4, FrameAct.lane m ∈ r.done → ((motions r.state).get m).Matches f

theorem makeAct_keeps_doneLanesMatch (f : Format) (changed : Bool) (a : FrameAct) (r : FrameRun)
    (h : DoneLanesMatch f r) : DoneLanesMatch f { makeAct changed a r with done := a :: r.done } := by
  obtain ⟨hf, hd⟩ := h
  rcases makeAct_cases changed a r with ⟨m, rfl, hs⟩ | ⟨ha, hfmt, hmot⟩
  · refine ⟨by rw [hs]; exact hf, fun n hn => ?_⟩
    rw [motions_get, hs]
    by_cases hnm : n = m
    · subst hnm
      rw [laneOf_laneAct_same, ← hf]
      exact laneStages_matches _ _ _
    · rw [laneOf_laneAct_other m n _ hnm, ← motions_get]
      exact hd n ((List.mem_cons.1 hn).resolve_left fun he => hnm (FrameAct.lane.inj he))
  · refine ⟨hfmt.trans hf, fun n hn => ?_⟩
    show ((motions (makeAct changed a r).state).get n).Matches f
    rw [hmot]
    exact hd n ((List.mem_cons.1 hn).resolve_left fun he => ha n he.symm)

def SpeedsInRange (s : State) : Prop := ∀ v ∈ (motions s).toList, v.InRange

theorem SpeedsInRange.of_same {s t : State} (h : SpeedsInRange s) (k : SameMotion s t) : SpeedsInRange t := by
  rw [SpeedsInRange, k.2]; exact h

theorem laneAct_speedsInRange (m : Nat) (s : State) (h : SpeedsInRange s) : SpeedsInRange (laneAct m s) := by
  intro v hv
  have hset : motions (laneAct m s) = (motions s).set m (laneStages s (isGuarded s) (laneOf s m)).1.motion :=
    motions_setLane s m _
  rw [hset] at hv
  rcases Quad.mem_set _ _ _ _ hv with rfl | hv
  · exact laneStages_inRange s _ _ (motions_get s m ▸ h _ (Quad.get_mem _ m))
  · exact h v hv

theorem makeAct_keeps_speedsInRange (changed : Bool) (a : FrameAct) (r : FrameRun) (h : SpeedsInRange r.state) :
    SpeedsInRange (makeAct changed a r).state := by
  rcases makeAct_cases changed a r with ⟨m, _, hs⟩ | ⟨_, hs⟩
  · rw [hs]; exact laneAct_speedsInRange m _ h
  · exact h.of_same hs

/-- What the acts of an output frame start have made at their end. -/
def actsOf (order : List FrameAct) (s : State) : FrameRun :=
  makeActs (formatChanged s.timing) (order ++ defaultOrder)
    { ending := s, state := beginFrame s, snaps := .all .blank, head := readHead (beginFrame s), done := [] }

theorem frameStart_eq (order : List FrameAct) (s : State) : frameStart order s = endFrame (actsOf order s) := rfl

theorem lane_mem_done_actsOf (order : List FrameAct) (s : State) (m : Fin 4) :
    FrameAct.lane m ∈ (actsOf order s).done :=
  lane_mem_done_makeActs _ m _ _ (List.mem_append_right order (lane_mem_defaultOrder m))

theorem actsOf_doneLanesMatch (order : List FrameAct) (s : State) :
    DoneLanesMatch (startFormat s.timing) (actsOf order s) :=
  makeActs_keeps _ _ (makeAct_keeps_doneLanesMatch _ _) _ _ ⟨rfl, nofun⟩

theorem actsOf_speedsInRange (order : List FrameAct) (s : State) (h : SpeedsInRange s) :
    SpeedsInRange (actsOf order s).state :=
  makeActs_keeps (fun r => SpeedsInRange r.state) _ (makeAct_keeps_speedsInRange _) _ _ h

/-- The end of the acts writes the frame set and the report lines alone (spec 10 R154, spec 12 R183). -/
theorem sameMotion_endFrame (r : FrameRun) : SameMotion r.state (endFrame r) := ⟨rfl, rfl⟩

/-- From any state, an output frame start leaves every lane with the increment of its speed at the format of the frame that
begins: each lane makes its stages, in whatever order the blocks act (spec 07 R107). -/
theorem frameStart_matches (order : List FrameAct) (s : State) :
    ∀ v ∈ (motions (frameStart order s)).toList, v.Matches (frameStart order s).timing.format := by
  intro v hv
  obtain ⟨m, rfl⟩ := Quad.exists_get_of_mem _ _ hv
  obtain ⟨hf, hd⟩ := actsOf_doneLanesMatch order s
  obtain ⟨hef, hem⟩ := sameMotion_endFrame (actsOf order s)
  rw [frameStart_eq, hef, hem, hf]
  exact hd m (lane_mem_done_actsOf order s m)

theorem frameStart_incrementsMatch (order : List FrameAct) (s : State) : IncrementsMatch (frameStart order s) :=
  fun l hl => frameStart_matches order s l.motion (List.mem_map_of_mem hl)

theorem frameStart_speedsInRange (order : List FrameAct) (s : State) (h : SpeedsInRange s) :
    SpeedsInRange (frameStart order s) :=
  (actsOf_speedsInRange order s h).of_same (sameMotion_endFrame _)

theorem frameStart_motionsSound (order : List FrameAct) (s : State) (h : MotionsSound s) :
    MotionsSound (frameStart order s) :=
  fun v hv => ⟨frameStart_matches order s v hv, frameStart_speedsInRange order s (fun v hv => (h v hv).2) v hv⟩

/-! ## The resets -/

theorem motions_resetRunEffect (s : State) : motions (resetRunEffect s) = .all .zero :=
  (sameMotion_joinPresent (resetRunBlocks s)).2

theorem motions_resetAllEffect (s : State) : motions (resetAllEffect s) = .all .zero :=
  (sameMotion_joinPresent (resetAllBlocks s)).2

theorem motions_powerOnReset (s : State) : motions (powerOnReset s) = .all .zero := rfl

theorem increment_of_zero (s : State) (h : motions s = .all .zero) (m : Nat) : (laneOf s m).increment = 0 := by
  have hm : (laneOf s m).motion = (Quad.all Motion.zero).get m := by rw [← motions_get, h]
  exact congrArg Motion.increment (hm.trans (Quad.get_all Motion.zero m))

/-- A RESET that is not refused has its effect at a ready state (spec 02 R29). -/
theorem whileRunning_reset (h : Header) (scope : Byte) (s t : State) (r : Ready s) (ht : doReset h scope s = .ok t) :
    whileRunning (submit h (.reset scope)) s = .next t := by
  rw [whileRunning_submit h (.reset scope) s r, takeCommand_of_ok h (.reset scope) s t rfl ht]

theorem exec_resetRun (h : Header) (s : State) (r : Ready s) (hl : h.level = 0) :
    exec (.resetRun h) s = .next (resetRunEffect s) := whileRunning_reset h 0 s _ r (by simp [doReset, hl])

theorem exec_resetAll (h : Header) (s : State) (r : Ready s) (hl : h.level = 0) :
    exec (.resetAll h) s = .next (resetAllEffect s) := whileRunning_reset h 1 s _ r (by simp [doReset, hl])

/-! ## The commands -/

/-- A command that is applied leaves the output format and every lane's motion; one that is refused answers no state. -/
def LeavesMotion (s : State) (r : Except Reason State) : Prop := ∀ t, r = .ok t → SameMotion s t

@[simp] theorem leavesMotion_error (s : State) (r : Reason) : LeavesMotion s (.error r) := fun _ h => nomatch h

@[simp] theorem leavesMotion_ok (s t : State) : LeavesMotion s (.ok t) ↔ SameMotion s t := by simp [LeavesMotion]

@[simp] theorem batchPair_lanes (h : Header) (f : PriceFields) (s : State) : (batchPair h f s).lanes = s.lanes := by
  simp only [batchPair]; split <;> rfl

@[simp] theorem batchPair_timing (h : Header) (f : PriceFields) (s : State) : (batchPair h f s).timing = s.timing := by
  simp only [batchPair]; split <;> rfl

theorem sameMotion_batchPairs (h : Header) (fs : List PriceFields) (s : State) :
    SameMotion s (batchPairs h fs s) := by
  induction fs generalizing s with
  | nil => exact .refl s
  | cons f fs ih => exact .trans (.of_lanes (by simp) (by simp)) (ih (batchPair h f s))

/-- LANE_STOP_CUT takes the target to the current speed, and LANE_STOP_DRAIN leaves both (spec 07 R94, R95). -/
theorem doLaneStop_motionsSound (h : Header) (lane mode : Byte) (s t : State) (hs : MotionsSound s)
    (ht : doLaneStop h lane mode s = .ok t) : MotionsSound t := by
  unfold doLaneStop at ht
  split at ht
  · cases ht
  · rename_i m _
    split at ht
    · cases ht
    · split at ht
      · cases ht
      · cases ht
        obtain ⟨hm, hr⟩ := hs.lane m
        split
        · exact hs.of_setLane m _ hm ⟨hr.1, hr.1⟩
        · exact hs.of_same (.of_setLane s m _ (drainLane_motion _))

/-- LANE_SPEED sets the target, clamped (spec 07 R105). -/
theorem doLaneSpeed_motionsSound (h : Header) (lane : Byte) (target step : Half) (s t : State) (hs : MotionsSound s)
    (ht : doLaneSpeed h lane target step s = .ok t) : MotionsSound t := by
  unfold doLaneSpeed at ht
  split at ht
  · cases ht
  · rename_i m _
    cases ht
    obtain ⟨hm, hr⟩ := hs.lane m
    exact hs.of_setLane m _ hm ⟨hr.1, (clampTo_bounds 0 960 target.toNat (by decide)).2⟩

theorem doReset_motionsSound (h : Header) (scope : Byte) (s t : State) (ht : doReset h scope s = .ok t) :
    MotionsSound t := by
  unfold doReset at ht
  split at ht
  · cases ht
  · split at ht
    · cases ht; exact motionsSound_of_zero _ (motions_resetRunEffect s)
    · split at ht
      · cases ht; exact motionsSound_of_zero _ (motions_resetAllEffect s)
      · cases ht

/-- The other commands leave the motions: each branch is a refusal, a write to the command's own unit, a lane put back or
refilled with its motion, or what the guard unit and the input unit make of it. -/
theorem runCommand_leavesMotion (h : Header) (c : Command) (s : State) (hr : ∀ b, c ≠ .reset b)
    (hst : ∀ a b, c ≠ .laneStop a b) (hsp : ∀ a b d, c ≠ .laneSpeed a b d) : LeavesMotion s (runCommand h c s) := by
  cases c with
  | reset b => exact absurd rfl (hr b)
  | laneStop a b => exact absurd rfl (hst a b)
  | laneSpeed a b d => exact absurd rfl (hsp a b d)
  | deviceConfig _ =>
    simp only [runCommand, doDeviceConfig]
    (repeat' split) <;> simp [SameMotion, motions]
  | fontDefine _ | fontClear _ | glyphMetrics _ | glyphRows _ | codeMapWrite _ =>
    simp only [runCommand, doFontDefine, doFontClear, doGlyphMetrics, doGlyphRows, doCodeMapWrite]
    (repeat' split) <;> simp [SameMotion, motions]
  | paletteWrite _ _ | styleWrite _ | styleDrop _ | textWrite _ _ | itemWrite _ | itemDrop _ =>
    simp only [runCommand, doPaletteWrite, doStyleWrite, doStyleDrop, doTextWrite, doItemWrite, doItemDrop]
    (repeat' split) <;> simp [SameMotion, motions]
  | playlistWrite _ _ | playlistAppend _ _ | laneStart _ _ _ | interjectCancel _ =>
    simp only [runCommand, doPlaylistWrite, doPlaylistAppend, doLaneStart, doInterjectCancel]
    (repeat' split) <;> simp only [leavesMotion_error, leavesMotion_ok]
    all_goals exact .of_refillLane s _ _ rfl
  | interject _ _ =>
    simp only [runCommand, doInterject]
    (repeat' split) <;> simp only [leavesMotion_error, leavesMotion_ok]
    exact .of_refillLane s _ _ (pushInterjection_motion _ _)
  | laneConfig _ =>
    simp only [runCommand, doLaneConfig]
    (repeat' split) <;> simp only [leavesMotion_error, leavesMotion_ok]
    exact .of_setLane s _ _ rfl
  | quoteBatch _ =>
    simp only [runCommand, doQuoteBatch, leavesMotion_ok]
    exact sameMotion_batchPairs h _ s
  | symbolDefine _ | symbolDrop _ | quote _ | reference _ | halt _ _ | movementWrite _ =>
    simp only [runCommand, doSymbolDefine, doSymbolDrop, doQuote, applyQuote, doReference, doHalt, doMovementWrite]
    (repeat' split) <;> simp [SameMotion, motions]
  | keyOn | keyOff =>
    simp only [runCommand, doKeyOn, doKeyOff, doKeyWish]
    (repeat' split) <;> simp [SameMotion, motions]
  | guardConfig _ | slateConfig _ | guardSet _ _ | guardRelease =>
    simp only [runCommand, doGuardConfig, doSlateConfig, doGuardSet, doGuardRelease]
    (repeat' split) <;> simp [SameMotion, motions]
  | query _ _ =>
    simp only [runCommand, doQuery]
    (repeat' split) <;> simp [SameMotion, motions]

theorem runCommand_motionsSound (h : Header) (c : Command) (s t : State) (hs : MotionsSound s)
    (ht : runCommand h c s = .ok t) : MotionsSound t := by
  by_cases hc : (∃ b, c = .reset b) ∨ (∃ a b, c = .laneStop a b) ∨ ∃ a b d, c = .laneSpeed a b d
  · rcases hc with ⟨b, rfl⟩ | ⟨a, b, rfl⟩ | ⟨a, b, d, rfl⟩
    · exact doReset_motionsSound h b s t ht
    · exact doLaneStop_motionsSound h a b s t hs ht
    · exact doLaneSpeed_motionsSound h a b d s t hs ht
  · have hr : ∀ b, c ≠ .reset b := fun b he => hc (.inl ⟨b, he⟩)
    have hst : ∀ a b, c ≠ .laneStop a b := fun a b he => hc (.inr (.inl ⟨a, b, he⟩))
    have hsp : ∀ a b d, c ≠ .laneSpeed a b d := fun a b d he => hc (.inr (.inr ⟨a, b, d, he⟩))
    exact hs.of_same (runCommand_leavesMotion h c s hr hst hsp t ht)

/-! ## Packets and events -/

theorem sameMotion_refuse (q c : Byte) (r : Reason) (s : State) : SameMotion s (refuse q c r s) := ⟨rfl, rfl⟩

theorem takeCommand_motionsSound (h : Header) (c : Command) (s : State) (hs : MotionsSound s) :
    MotionsSound (takeCommand h c s) := by
  rcases takeCommand_cases h c s with ⟨_, hr⟩ | ⟨r, hr⟩
  · exact runCommand_motionsSound h c s _ hs hr
  · rw [hr]; exact hs.of_same (sameMotion_refuse _ _ r s)

theorem takeEntry_motionsSound (e : Entry) (s : State) (hs : MotionsSound s) : MotionsSound (takeEntry e s) := by
  rcases takeEntry_cases e s with ⟨r, he⟩ | ⟨c, _, _, he⟩ <;> rw [he]
  · exact hs.of_same (sameMotion_refuse _ _ r s)
  · exact takeCommand_motionsSound (headerOf e) c s hs

theorem sameMotion_removeOldest (rest : List Entry) (s : State) : SameMotion s (removeOldest rest s) := by
  obtain ⟨b, a, h⟩ := removeOldest_frame rest s
  rw [h]
  exact ⟨rfl, rfl⟩

theorem sameMotion_settleTaking (before : CauseSet) (removed s : State) :
    SameMotion s (settleTaking before removed s) := by
  rcases settleTaking_cases before removed s with h | h <;> rw [h]
  · exact .refl s
  · exact sameMotion_recompute s

theorem takeOldest_motionsSound (s : State) (hs : MotionsSound s) : MotionsSound (takeOldest s) := by
  unfold takeOldest
  split
  · rename_i e rest _ _
    exact (takeEntry_motionsSound e _ (hs.of_same (sameMotion_removeOldest rest s))).of_same
      (sameMotion_settleTaking _ _ _)
  · exact hs

theorem sameMotion_dropPacket (s : State) : SameMotion s (dropPacket s) := by
  by_cases h : OverrunJoins s
  · rw [dropPacket_of_joins s h]; exact sameMotion_recompute (markCause .intakeOverrun true (countDrop s))
  · rw [dropPacket_of_stays s h]; exact ⟨rfl, rfl⟩

theorem offer_motionsSound (e : Entry) (s : State) (hs : MotionsSound s) : MotionsSound (offer e s) := by
  unfold offer
  split
  · exact takeOldest_motionsSound _ (hs.of_same ⟨rfl, rfl⟩)
  · exact hs.of_same (sameMotion_dropPacket s)

theorem submit_motionsSound (h : Header) (c : Command) (s : State) (hs : MotionsSound s) :
    MotionsSound (submit h c s) := by
  unfold submit
  split
  · exact takeCommand_motionsSound h c s hs
  · exact offer_motionsSound _ s hs

theorem submitEntry_motionsSound (e : Entry) (s : State) (hs : MotionsSound s) : MotionsSound (submitEntry e s) := by
  unfold submitEntry
  split
  · exact takeEntry_motionsSound e s hs
  · exact offer_motionsSound e s hs

theorem arrive_motionsSound (p : Found) (s : State) (hs : MotionsSound s) : MotionsSound (arrive p s) := by
  unfold arrive
  split
  · split
    · exact offer_motionsSound _ s hs
    · exact hs
  · exact hs

theorem arriveAll_motionsSound (ps : List Found) (s : State) (hs : MotionsSound s) : MotionsSound (arriveAll ps s) := by
  induction ps generalizing s with
  | nil => exact hs
  | cons p ps ih => exact ih _ (arrive_motionsSound p s hs)

theorem windowExpires_motionsSound (s : State) (hs : MotionsSound s) : MotionsSound (windowExpires s) :=
  hs.of_same (sameMotion_changeInput _ s)

/-- A good frame moves the input unit and the starts still to come; its packets may be commands (spec 01 R2, R5, R6). -/
theorem frameArrives_motionsSound (fs : FrameStructure) (blanking : Blanking) (s : State) (hs : MotionsSound s) :
    MotionsSound (frameArrives fs blanking s) := by
  unfold frameArrives
  split
  · exact hs
  · exact arriveAll_motionsSound _ _ ((hs.of_same (sameMotion_changeInput _ s)).of_same
      (sameMotion_followFrame _ _ _ _))

theorem drawLine_motionsSound (programme : Option (List Pixel)) (s : State) (hs : MotionsSound s) :
    MotionsSound (drawLine programme s) := hs.of_same (sameMotion_drawLine programme s)

theorem powerOnReset_motionsSound (s : State) : MotionsSound (powerOnReset s) :=
  motionsSound_of_zero _ (motions_powerOnReset s)

/-- The release of a reset is an output frame start and a reading of the conditions, in either order (spec 01 R13). -/
theorem releaseReset_motionsSound (guardFirst : Bool) (order : List FrameAct) (s : State) (hs : MotionsSound s) :
    MotionsSound (releaseReset guardFirst order s) := by
  have hpin : MotionsSound { s with pins := { s.pins with resetLow := false } } := hs.of_same ⟨rfl, rfl⟩
  cases guardFirst with
  | true => exact frameStart_motionsSound order _ (hpin.of_same (sameMotion_joinPresent _))
  | false => exact (frameStart_motionsSound order _ hpin).of_same (sameMotion_joinPresent _)

/-! ## Completions -/

theorem meanwhile_motionsSound (e : Meanwhile) (s : State) (hs : MotionsSound s) : MotionsSound (meanwhile e s) := by
  unfold meanwhile
  split
  · exact hs
  · cases e with
    | taking => exact takeOldest_motionsSound s hs
    | arrival p => exact arrive_motionsSound p s hs
    | goodFrame frame blanking => exact frameArrives_motionsSound frame blanking s hs
    | frameWindowExpiry => exact windowExpires_motionsSound s hs
    | outputFrameStart order => exact frameStart_motionsSound order s hs
    | drawLine programme => exact drawLine_motionsSound programme s hs
    | powerOnReset => exact powerOnReset_motionsSound s

theorem finishOp_motionsSound (op : InFlight) (among : List Meanwhile) (s : State) (hs : MotionsSound s) :
    MotionsSound (finishOp op among s) :=
  finishOp_keeps MotionsSound op among s takeOldest_motionsSound meanwhile_motionsSound (hs.of_same ⟨rfl, rfl⟩)

theorem completeGlyphRows_motionsSound (among : List Meanwhile) (s : State) (hs : MotionsSound s) :
    MotionsSound (completeGlyphRows among s) := by
  unfold completeGlyphRows
  split
  · exact finishOp_motionsSound _ among s hs
  · exact hs

theorem completeFontClear_motionsSound (among : List Meanwhile) (s : State) (hs : MotionsSound s) :
    MotionsSound (completeFontClear among s) := by
  unfold completeFontClear
  split
  · exact finishOp_motionsSound _ among s hs
  · exact hs

/-! ## One step -/

/-- What an operation keeps, it keeps while no power-on reset is applied and while one is (spec 01 R13). -/
theorem whileRunning_motionsSound (f : State → State) (hf : ∀ s, MotionsSound s → MotionsSound (f s)) (s t : State)
    (hs : MotionsSound s) (ht : whileRunning f s = .next t) : MotionsSound t := by
  cases ht
  split
  · exact hs
  · exact hf s hs

/-- Every command and event; a command row is its packet, submitted (spec 02 R18, R21). -/
theorem exec_motionsSound (i : Instr) (s t : State) (hs : MotionsSound s) (ht : exec i s = .next t) :
    MotionsSound t := by
  cases i with
  | powerOnReset => cases ht; exact powerOnReset_motionsSound s
  | resetRelease guardFirst order => cases ht; exact releaseReset_motionsSound guardFirst order s hs
  | goodFrame frame blanking => exact whileRunning_motionsSound _ (frameArrives_motionsSound frame blanking) s t hs ht
  | frameWindowExpiry => exact whileRunning_motionsSound _ windowExpires_motionsSound s t hs ht
  | outputFrameStart order => exact whileRunning_motionsSound _ (frameStart_motionsSound order) s t hs ht
  | packetArrival p => exact whileRunning_motionsSound _ (arrive_motionsSound p) s t hs ht
  | damagedEntry e => exact whileRunning_motionsSound _ (submitEntry_motionsSound _) s t hs ht
  | unknownCommand h code payload => exact whileRunning_motionsSound _ (submitEntry_motionsSound _) s t hs ht
  | glyphRowsCompletion among => exact whileRunning_motionsSound _ (completeGlyphRows_motionsSound among) s t hs ht
  | fontClearCompletion among => exact whileRunning_motionsSound _ (completeFontClear_motionsSound among) s t hs ht
  | drawLine programme => exact whileRunning_motionsSound _ (drawLine_motionsSound programme) s t hs ht
  | _ => exact whileRunning_motionsSound _ (submit_motionsSound _ _) s t hs ht

theorem step_motionsSound (s t : State) (hs : MotionsSound s) (ht : step s = .next t) : MotionsSound t := by
  unfold step at ht
  split at ht
  · cases ht; exact hs
  · rename_i c rest _
    have hrest : MotionsSound { s with pending := rest } := hs.of_same ⟨rfl, rfl⟩
    exact exec_motionsSound c _ t hrest ht

/-- Settles O14: the step keeps the motions sound, an output frame start runs stage 3 of every lane, and the resets bring
every lane to a standstill. -/
theorem incrementFollowsTheSpeed : Obligations.IncrementFollowsTheSpeed := by
  refine ⟨fun s t hm hr ht => ?_, fun order s hrun => ?_, fun h s r hl => ?_, incrementOf_le, by decide⟩
  · exact (motionsSound_iff t).1 (step_motionsSound s t ((motionsSound_iff s).2 ⟨hm, hr⟩) ht)
  · exact ⟨frameStart order s, whileRunning_high _ s hrun, frameStart_incrementsMatch order s⟩
  · refine ⟨resetRunEffect s, resetAllEffect s, powerOnReset s, exec_resetRun h s r hl, exec_resetAll h s r hl, rfl,
      fun m => ⟨?_, ?_, ?_⟩⟩
    · exact increment_of_zero _ (motions_resetRunEffect s) m
    · exact increment_of_zero _ (motions_resetAllEffect s) m
    · exact increment_of_zero _ (motions_powerOnReset s) m

end Sys2Proof.Machine
end

section
/-! PROOFS. What an applied command can do to the state, said once, and the rule by which a property of the state is shown to
be kept by every step: it is kept by each of the operations that steps are made of. -/

namespace Sys2Proof.Machine

open Sys2Proof

/-! ## What an applied command can do -/

/-- What a lane command makes of its lane before the attempt at a refill (spec 06 R83 to R85, spec 07 R93, spec 08 R123,
R128). -/
inductive LaneRefilled (l : Lane) : Lane → Prop where
  | replaced (items : List Nat) (h : items.length ≤ 128) : LaneRefilled l (replaceBase l items)
  | appended (items : List Nat) (h : l.base.length + items.length ≤ 128) :
      LaneRefilled l { l with base := l.base ++ items }
  | started (mode : LaneMode) (start : Nat) (h : l.state ≠ .running) : LaneRefilled l (startLane l mode start)
  | interjected (items : List Nat) (hi : items ≠ []) (hs : l.state = .running) (hd : l.interjections.length < 3) :
      LaneRefilled l (pushInterjection l items)
  | cancelled (i : Interjection) (below : List Interjection) (h : l.interjections = i :: below) :
      LaneRefilled l { l with slot := none, interjections := below }

/-- What a lane command makes of its lane where it attempts no refill (spec 07 R90, R94, R95, R105). -/
inductive LaneSet (l : Lane) : Lane → Prop where
  | configured (owner : Nat) (c : LaneConfig) : LaneSet l { l with owner := owner, pending := some c }
  | cut : LaneSet l (cutLane l)
  | drained : LaneSet l (drainLane l)
  | paced (target step : Nat) (ht : target ≤ 960) (hs : step ≤ 960) :
      LaneSet l { l with target := target, step := step }

/-- The record that a command of the quote unit, a quote apart, leaves at a symbol number (spec 09 R132 to R134, R137,
R138). -/
inductive SymbolMade (q : QuoteUnit) (n : Nat) : Option Symbol → Prop where
  | defined (h : Header) (f : SymbolFields) : SymbolMade q n (some (symbolOf h f))
  | dropped : SymbolMade q n none
  | referenced (x : Symbol) (price : Quad32) (hx : symbolAt q n = some x) : SymbolMade q n
      (some (filterClass q.classFilter (recomputeSymbol q.largeThreshold { x with reference := clampPrice price })))
  | halted (x : Symbol) (on : Bool) (hx : symbolAt q n = some x) : SymbolMade q n (some (haltSymbol q on x))

/-- KEY_ON and KEY_OFF (spec 10 R164). -/
def wishKey (w : Switch) (s : State) : State :=
  if isGuarded s then { s with keyer := { s.keyer with wish := w } }
  else { s with keyer := aimKey { s.keyer with wish := w } w }

/-- GUARD_SET (spec 11 R172). -/
def setManual (a : Action) (cut : Bool) (s : State) : State :=
  let s1 := { s with guard := { s.guard with manual := true, manualAction := some a } }
  let s2 := recompute (markCause .manual true s1)
  if cut then sendCut s2 else s2

/-- SLATE_CONFIG (spec 11 R176). -/
def storeSlate (c : Option SlateConfig) (s : State) : State :=
  let s1 := { s with guard := { s.guard with slate := c } }
  if s.guard.state = .guarded .slate then resolveSlate s1 else s1

/-- What an applied command can write to a store, a lane, the quote unit or the report queue: one case for each kind of
write. -/
inductive StoreEffect (s : State) : State → Prop where
  | colours (first : Nat) (cs : List Colour) : StoreEffect s { s with palette := { s.palette with
      written := Table.setRun Colour.black s.palette.written first cs } }
  | fonts (q : Quad (Option FontDef)) : StoreEffect s { s with glyphs := { s.glyphs with fonts := q } }
  | widths (slot advance bitmap : Nat) : StoreEffect s { s with
      glyphs := setGlyph s.glyphs slot (Glyph.withWidths (glyphAt s.glyphs slot) advance bitmap) }
  | codes (font first : Nat) (entries : List (Option Nat)) : StoreEffect s { s with glyphs := { s.glyphs with
      maps := s.glyphs.maps.set font (Table.setRun none (s.glyphs.maps.get font) first entries) } }
  | style (n : Nat) (x : Option Style) : StoreEffect s (setStyle s n x)
  | text (offset : Nat) (codes : List Byte) : StoreEffect s { s with text := Memory.writeRun s.text offset codes }
  | item (n : Nat) (x : Option Item) : StoreEffect s (setItem s n x)
  | refilled (m : Nat) (l : Lane) (hl : LaneRefilled (laneOf s m) l) : StoreEffect s (refillLane m l s)
  | lane (m : Nat) (l : Lane) (hl : LaneSet (laneOf s m) l) : StoreEffect s (setLane s m l)
  | symbol (n : Nat) (x : Option Symbol) (hx : SymbolMade s.quote n x) :
      StoreEffect s { s with quote := setSymbol s.quote n x }
  | quote (n : Half) (price : Quad32) (x : Symbol) (hx : symbolAt s.quote n.toNat = some x) :
      StoreEffect s (applyQuote n price x s)
  | movement (i : Nat) (e : Movement) (he : e.flash ≤ 120) : StoreEffect s { s with quote := { s.quote with
      movement := Table.set Movement.initial s.quote.movement i e } }
  | reply (r : Reply) (h : s.report.replies.length < 8) :
      StoreEffect s { s with report := { s.report with replies := s.report.replies ++ [r] } }

/-- What an applied command can do (spec 02 R21 step 4): a write to a store, the beginning of an operation, or what it makes
of the settings, the keyer and the guard unit. -/
inductive CommandEffect (s : State) : State → Prop where
  | resetRun : CommandEffect s (resetRunEffect s)
  | resetAll : CommandEffect s (resetAllEffect s)
  | settings (f : DeviceFields) (hg : groupOutOfRange f = false) :
      CommandEffect s (changeInput (deviceFilter f s.input) (storeSettings f s))
  | stored (t : State) (h : StoreEffect s t) : CommandEffect s t
  | begins (op : InFlight) : CommandEffect s { s with engine := { s.engine with op := some op } }
  | batch (h : Header) (pairs : List PriceFields) : CommandEffect s (batchPairs h pairs s)
  | wish (w : Switch) : CommandEffect s (wishKey w s)
  | cause (k : Cause) (c : CauseConfig) (b : Bool) : CommandEffect s (recompute (markCause k b (setCauseConfig k c s)))
  | manual (a : Action) (cut : Bool) : CommandEffect s (setManual a cut s)
  | release (active : CauseSet) :
      CommandEffect s (recompute { s with guard := { s.guard with manual := false, active := active } })
  | slate (c : Option SlateConfig) : CommandEffect s (storeSlate c s)

/-- The outcome of a command's own checks: a refusal, or one of the effects above. -/
def HasEffect (s : State) (r : Except Reason State) : Prop := ∀ t, r = .ok t → CommandEffect s t

@[simp] theorem hasEffect_error (s : State) (r : Reason) : HasEffect s (.error r) := fun _ h => nomatch h

@[simp] theorem hasEffect_ok (s t : State) : HasEffect s (.ok t) ↔ CommandEffect s t := by simp [HasEffect]

theorem checkedSymbol_ok {h : Header} {n : Half} {s : State} {x : Symbol} (hc : checkedSymbol h n s = .ok x) :
    symbolAt s.quote n.toNat = some x := by
  unfold checkedSymbol at hc
  split at hc
  · cases hc
  · split at hc
    · cases hc
    · split at hc
      · cases hc
      · cases hc; assumption

theorem doReset_effect (h : Header) (scope : Byte) (s : State) : HasEffect s (doReset h scope s) := by
  unfold doReset
  (repeat' split) <;> simp only [hasEffect_error, hasEffect_ok]
  · exact .resetRun
  · exact .resetAll

theorem doDeviceConfig_effect (h : Header) (f : DeviceFields) (s : State) : HasEffect s (doDeviceConfig h f s) := by
  unfold doDeviceConfig
  (repeat' split) <;> simp only [hasEffect_error, hasEffect_ok]
  exact .settings f (by simp_all)

/-- The writes to the palette and the glyph store, and the beginning of an operation. -/
theorem glyphCommands_effect (h : Header) (s : State) :
    (∀ first cs, HasEffect s (doPaletteWrite h first cs s)) ∧ (∀ f, HasEffect s (doFontDefine h f s)) ∧
    (∀ font, HasEffect s (doFontClear h font s)) ∧ (∀ f, HasEffect s (doGlyphMetrics h f s)) ∧
    (∀ f, HasEffect s (doGlyphRows h f s)) ∧ ∀ f, HasEffect s (doCodeMapWrite h f s) := by
  refine ⟨fun first cs => ?_, fun f => ?_, fun font => ?_, fun f => ?_, fun f => ?_, fun f => ?_⟩
  · unfold doPaletteWrite
    (repeat' split) <;> simp only [hasEffect_error, hasEffect_ok]
    exact .stored _ (.colours _ _)
  · unfold doFontDefine
    (repeat' split) <;> simp only [hasEffect_error, hasEffect_ok]
    exact .stored _ (.fonts _)
  · unfold doFontClear
    (repeat' split) <;> simp only [hasEffect_error, hasEffect_ok]
    exact .begins _
  · unfold doGlyphMetrics
    (repeat' split) <;> simp only [hasEffect_error, hasEffect_ok]
    exact .stored _ (.widths _ _ _)
  · unfold doGlyphRows
    (repeat' split) <;> simp only [hasEffect_error, hasEffect_ok]
    exact .begins _
  · unfold doCodeMapWrite
    (repeat' split) <;> simp only [hasEffect_error, hasEffect_ok]
    exact .stored _ (.codes _ _ _)

/-- The writes to the style table, the text store and the item table. -/
theorem tableCommands_effect (h : Header) (s : State) :
    (∀ f, HasEffect s (doStyleWrite h f s)) ∧ (∀ n, HasEffect s (doStyleDrop h n s)) ∧
    (∀ offset codes, HasEffect s (doTextWrite h offset codes s)) ∧ (∀ f, HasEffect s (doItemWrite h f s)) ∧
    ∀ n, HasEffect s (doItemDrop h n s) := by
  refine ⟨fun f => ?_, fun n => ?_, fun offset codes => ?_, fun f => ?_, fun n => ?_⟩
  · unfold doStyleWrite
    (repeat' split) <;> simp only [hasEffect_error, hasEffect_ok]
    exact .stored _ (.style _ _)
  · unfold doStyleDrop
    (repeat' split) <;> simp only [hasEffect_error, hasEffect_ok]
    exact .stored _ (.style _ _)
  · unfold doTextWrite
    (repeat' split) <;> simp only [hasEffect_error, hasEffect_ok]
    exact .stored _ (.text _ _)
  · unfold doItemWrite
    (repeat' split) <;> simp only [hasEffect_error, hasEffect_ok]
    exact .stored _ (.item _ _)
  · unfold doItemDrop
    (repeat' split) <;> simp only [hasEffect_error, hasEffect_ok]
    exact .stored _ (.item _ _)

/-- The commands that end in an attempt at a refill; the counts are those of a consistent command. -/
theorem refillCommands_effect (h : Header) (lane : Byte) (s : State) :
    (∀ items : List Half, items.length ≤ 116 → HasEffect s (doPlaylistWrite h lane items s)) ∧
    (∀ items, HasEffect s (doPlaylistAppend h lane items s)) ∧
    (∀ mode start, HasEffect s (doLaneStart h lane mode start s)) ∧
    (∀ items : List Half, 1 ≤ items.length → HasEffect s (doInterject h lane items s)) ∧
    HasEffect s (doInterjectCancel h lane s) := by
  refine ⟨fun items hi => ?_, fun items => ?_, fun mode start => ?_, fun items hi => ?_, ?_⟩
  · unfold doPlaylistWrite
    (repeat' split) <;> simp only [hasEffect_error, hasEffect_ok]
    exact .stored _ (.refilled _ _ (.replaced _ (by simp [itemNumbers]; omega)))
  · unfold doPlaylistAppend
    (repeat' split) <;> simp only [hasEffect_error, hasEffect_ok]
    exact .stored _ (.refilled _ _ (.appended _ (by simp [itemNumbers]; omega)))
  · unfold doLaneStart
    (repeat' split) <;> simp only [hasEffect_error, hasEffect_ok]
    exact .stored _ (.refilled _ _ (.started _ _ ‹_›))
  · unfold doInterject
    (repeat' split) <;> simp only [hasEffect_error, hasEffect_ok]
    rename_i hs hd
    refine .stored _ (.refilled _ _ (.interjected _ ?_ (Classical.not_not.1 hs) (by omega)))
    cases items with
    | nil => simp at hi
    | cons i is => simp [itemNumbers]
  · unfold doInterjectCancel
    (repeat' split) <;> simp only [hasEffect_error, hasEffect_ok]
    exact .stored _ (.refilled _ _ (.cancelled _ _ ‹_›))

/-- The lane commands that attempt no refill. -/
theorem laneCommands_effect (h : Header) (s : State) :
    (∀ f, HasEffect s (doLaneConfig h f s)) ∧ (∀ lane mode, HasEffect s (doLaneStop h lane mode s)) ∧
    ∀ lane target step, HasEffect s (doLaneSpeed h lane target step s) := by
  refine ⟨fun f => ?_, fun lane mode => ?_, fun lane target step => ?_⟩
  · unfold doLaneConfig
    (repeat' split) <;> simp only [hasEffect_error, hasEffect_ok]
    exact .stored _ (.lane _ _ (.configured _ _))
  · unfold doLaneStop
    (repeat' split) <;> simp only [hasEffect_error, hasEffect_ok]
    · exact .stored _ (.lane _ _ .cut)
    · exact .stored _ (.lane _ _ .drained)
  · unfold doLaneSpeed
    (repeat' split) <;> simp only [hasEffect_error, hasEffect_ok]
    exact .stored _ (.lane _ _ (.paced _ _ (clampTo_bounds 0 960 _ (by decide)).2 (clampTo_bounds 0 960 _ (by decide)).2))

/-- The commands of the quote unit. -/
theorem quoteCommands_effect (h : Header) (s : State) :
    (∀ f, HasEffect s (doSymbolDefine h f s)) ∧ (∀ n, HasEffect s (doSymbolDrop h n s)) ∧
    (∀ f, HasEffect s (doQuote h f s)) ∧ (∀ pairs, HasEffect s (doQuoteBatch h pairs s)) ∧
    (∀ f, HasEffect s (doReference h f s)) ∧ (∀ n flag, HasEffect s (doHalt h n flag s)) ∧
    ∀ f, HasEffect s (doMovementWrite h f s) := by
  refine ⟨fun f => ?_, fun n => ?_, fun f => ?_, fun pairs => ?_, fun f => ?_, fun n flag => ?_, fun f => ?_⟩
  · unfold doSymbolDefine
    (repeat' split) <;> simp only [hasEffect_error, hasEffect_ok]
    exact .stored _ (.symbol _ _ (.defined _ _))
  · unfold doSymbolDrop
    (repeat' split) <;> simp only [hasEffect_error, hasEffect_ok]
    exact .stored _ (.symbol _ _ .dropped)
  · unfold doQuote
    (repeat' split) <;> simp only [hasEffect_error, hasEffect_ok]
    rename_i x hx
    exact .stored _ (.quote _ _ x (checkedSymbol_ok hx))
  · simp only [doQuoteBatch, hasEffect_ok]
    exact .batch _ _
  · unfold doReference
    (repeat' split) <;> simp only [hasEffect_error, hasEffect_ok]
    rename_i x hx
    exact .stored _ (.symbol _ _ (.referenced x _ (checkedSymbol_ok hx)))
  · unfold doHalt
    (repeat' split) <;> simp only [hasEffect_error, hasEffect_ok]
    rename_i x hx _ _ _
    exact .stored _ (.symbol _ _ (.halted x _ (checkedSymbol_ok hx)))
  · unfold doMovementWrite
    (repeat' split) <;> simp only [hasEffect_error, hasEffect_ok]
    all_goals exact .stored _ (.movement _ _ (clampTo_bounds 0 120 _ (by decide)).2)

/-- The commands of the keyer, the guard unit and the report unit. -/
theorem guardCommands_effect (h : Header) (s : State) :
    (∀ w, HasEffect s (doKeyWish h w s)) ∧ (∀ f, HasEffect s (doGuardConfig h f s)) ∧
    (∀ f, HasEffect s (doSlateConfig h f s)) ∧ (∀ a cut, HasEffect s (doGuardSet h a cut s)) ∧
    HasEffect s (doGuardRelease h s) ∧ ∀ kind index, HasEffect s (doQuery h kind index s) := by
  refine ⟨fun w => ?_, fun f => ?_, fun f => ?_, fun a cut => ?_, ?_, fun kind index => ?_⟩
  · have hw : (if isGuarded s then Except.ok (ε := Reason) { s with keyer := { s.keyer with wish := w } }
        else .ok { s with keyer := aimKey { s.keyer with wish := w } w }) = .ok (wishKey w s) := by
      unfold wishKey; split <;> rfl
    unfold doKeyWish
    rw [hw]
    split <;> simp only [hasEffect_error, hasEffect_ok]
    exact .wish w
  · unfold doGuardConfig
    split
    · exact hasEffect_error _ _
    · split
      · exact hasEffect_error _ _
      · split
        · exact (hasEffect_ok _ _).2 (.cause _ _ _)
        · exact hasEffect_error _ _
  · unfold doSlateConfig
    split
    · exact hasEffect_error _ _
    · split
      · exact hasEffect_error _ _
      · split
        · exact hasEffect_error _ _
        · split
          · exact hasEffect_error _ _
          · exact (hasEffect_ok _ _).2 (.slate _)
  · unfold doGuardSet
    split
    · exact hasEffect_error _ _
    · split
      · exact (hasEffect_ok _ _).2 (.manual _ _)
      · exact hasEffect_error _ _
  · unfold doGuardRelease
    split
    · exact hasEffect_error _ _
    · split
      · exact (hasEffect_ok _ _).2 (.release _)
      · exact hasEffect_error _ _
  · unfold doQuery
    (repeat' split) <;> simp only [hasEffect_error, hasEffect_ok]
    exact .stored _ (.reply _ (by omega))

/-- A consistent command that is applied has one of the effects (spec 02 R21 step 4). -/
theorem runCommand_effect (h : Header) (c : Command) (s : State) (hc : Command.consistent c = true) :
    HasEffect s (runCommand h c s) := by
  obtain ⟨palette, fontDefine, fontClear, metrics, rows, codes⟩ := glyphCommands_effect h s
  obtain ⟨styleWrite, styleDrop, text, itemWrite, itemDrop⟩ := tableCommands_effect h s
  obtain ⟨config, stop, speed⟩ := laneCommands_effect h s
  obtain ⟨define, drop, quote, batch, reference, halt, movement⟩ := quoteCommands_effect h s
  obtain ⟨wish, guardConfig, slate, guardSet, release, query⟩ := guardCommands_effect h s
  cases c with
  | reset b => exact doReset_effect h b s
  | deviceConfig f => exact doDeviceConfig_effect h f s
  | paletteWrite first cs => exact palette first cs
  | fontDefine f => exact fontDefine f
  | fontClear f => exact fontClear f
  | glyphMetrics f => exact metrics f
  | glyphRows f => exact rows f
  | codeMapWrite f => exact codes f
  | styleWrite f => exact styleWrite f
  | styleDrop n => exact styleDrop n
  | textWrite o cs => exact text o cs
  | itemWrite f => exact itemWrite f
  | itemDrop n => exact itemDrop n
  | playlistWrite m is => exact (refillCommands_effect h m s).1 is (of_decide_eq_true hc)
  | playlistAppend m is => exact (refillCommands_effect h m s).2.1 is
  | laneConfig f => exact config f
  | laneStart m mode start => exact (refillCommands_effect h m s).2.2.1 mode start
  | laneStop m mode => exact stop m mode
  | laneSpeed m t d => exact speed m t d
  | interject m is => exact (refillCommands_effect h m s).2.2.2.1 is (of_decide_eq_true hc).1
  | interjectCancel m => exact (refillCommands_effect h m s).2.2.2.2
  | symbolDefine f => exact define f
  | symbolDrop n => exact drop n
  | quote f => exact quote f
  | quoteBatch ps => exact batch ps
  | reference f => exact reference f
  | halt n flag => exact halt n flag
  | movementWrite f => exact movement f
  | keyOn => exact wish .on
  | keyOff => exact wish .off
  | guardConfig f => exact guardConfig f
  | slateConfig f => exact slate f
  | guardSet a cut => exact guardSet a cut
  | guardRelease => exact release
  | query kind index => exact query kind index

/-! ## What a step is made of -/

/-- `P` is kept by each of the events, and by one taking of the engine. -/
structure EventsKeep (P : State → Prop) : Prop where
  powerOn : ∀ s, P s → P (powerOnReset s)
  begun : ∀ order s, P s → P (frameStart order s)
  arrived : ∀ f s, P s → P (changeInput (goodFrameInput f s.input) s)
  followed : ∀ f blanking before s, P s → P (followFrame f blanking before s)
  expired : ∀ s, P s → P (windowExpires s)
  drawn : ∀ programme s, P s → P (drawLine programme s)
  taken : ∀ s, P s → P (takeOldest s)
  offered : ∀ e s, P s → P (offer e s)

/-- `P` is kept by each of the operations that steps are made of. -/
structure StepKeeps (P : State → Prop) : Prop extends EventsKeep P where
  pending : ∀ rest s, P s → P { s with pending := rest }
  released : ∀ s, P s → P { s with pins := { s.pins with resetLow := false } }
  joined : ∀ s, P s → P (joinPresent s)
  refused : ∀ q c r s, P s → P (refuse q c r s)
  applied : ∀ s t, CommandEffect s t → P s → P t
  finished : ∀ op among s, P s → P (finishOp op among s)

theorem takeCommand_keeps {P : State → Prop} (refused : ∀ q c r s, P s → P (refuse q c r s))
    (applied : ∀ s t, CommandEffect s t → P s → P t) (h : Header) (c : Command) (s : State) (hs : P s) :
    P (takeCommand h c s) := by
  rcases takeCommand_cases h c s with ⟨hc, hr⟩ | ⟨r, hr⟩
  · exact applied s _ (runCommand_effect h c s hc _ hr) hs
  · exact hr ▸ refused _ _ r s hs

theorem takeEntry_keeps {P : State → Prop} (refused : ∀ q c r s, P s → P (refuse q c r s))
    (applied : ∀ s t, CommandEffect s t → P s → P t) (e : Entry) (s : State) (hs : P s) : P (takeEntry e s) := by
  rcases takeEntry_cases e s with ⟨r, he⟩ | ⟨c, _, _, he⟩ <;> rw [he]
  · exact refused _ _ r s hs
  · exact takeCommand_keeps refused applied _ c s hs

/-- One taking is a removal, an entry dealt with, and one recomputation or none (spec 02 R21, log 29). -/
theorem takeOldest_keeps {P : State → Prop} (refused : ∀ q c r s, P s → P (refuse q c r s))
    (applied : ∀ s t, CommandEffect s t → P s → P t) (removed : ∀ rest s, P s → P (removeOldest rest s))
    (recomputed : ∀ s, P s → P (recompute s)) (s : State) (hs : P s) : P (takeOldest s) := by
  unfold takeOldest
  split
  · rename_i e rest _ _
    have ht := takeEntry_keeps refused applied e _ (removed rest s hs)
    rcases settleTaking_cases s.guard.active (removeOldest rest s) (takeEntry e (removeOldest rest s)) with h | h <;>
      rw [h]
    · exact ht
    · exact recomputed _ ht
  · exact hs

/-- A drop counts, sets the latch, and makes INTAKE_OVERRUN join or not (spec 02 R19, R20). -/
theorem dropPacket_cases (s : State) :
    dropPacket s = countDrop s ∨ dropPacket s = recompute (markCause .intakeOverrun true (countDrop s)) := by
  by_cases h : OverrunJoins s
  · exact .inr (dropPacket_of_joins s h)
  · exact .inl (dropPacket_of_stays s h)

/-- An output frame start is its beginning, the acts of the blocks, and its end (spec 01 R9). -/
theorem frameStart_keeps {P : State → Prop} (begun : ∀ s, P s → P (beginFrame s))
    (acted : ∀ changed a r, P r.state → P (makeAct changed a r).state) (ended : ∀ r, P r.state → P (endFrame r))
    (order : List FrameAct) (s : State) (hs : P s) : P (frameStart order s) :=
  frameStart_eq order s ▸ ended _ (makeActs_keeps (fun r => P r.state) _ (fun a r hr => acted _ a r hr) _ _ (begun s hs))

theorem joinPresent_eq (s : State) : ∃ a, joinPresent s =
    recompute { s with guard := { s.guard with active := a } } := ⟨_, rfl⟩

theorem batchPairs_keeps {P : State → Prop} (refused : ∀ q c r s, P s → P (refuse q c r s))
    (quoted : ∀ n price x s, symbolAt s.quote n.toNat = some x → P s → P (applyQuote n price x s)) (h : Header)
    (pairs : List PriceFields) (s : State) (hs : P s) : P (batchPairs h pairs s) := by
  induction pairs generalizing s with
  | nil => exact hs
  | cons f fs ih =>
    refine ih _ ?_
    unfold batchPair
    split
    · exact refused _ _ _ s hs
    · rename_i x hx
      exact quoted _ _ x s (checkedSymbol_ok hx) hs

namespace EventsKeep

variable {P : State → Prop} (k : EventsKeep P)
include k

theorem arrive (p : Found) (s : State) (hs : P s) : P (arrive p s) := by
  unfold Machine.arrive
  split
  · split
    · exact k.offered _ s hs
    · exact hs
  · exact hs

theorem arriveAll (ps : List Found) (s : State) (hs : P s) : P (arriveAll ps s) := by
  induction ps generalizing s with
  | nil => exact hs
  | cons p ps ih => exact ih _ (k.arrive p s hs)

theorem frameArrives (fs : FrameStructure) (blanking : Blanking) (s : State) (hs : P s) :
    P (frameArrives fs blanking s) := by
  unfold Machine.frameArrives
  split
  · exact hs
  · exact k.arriveAll _ _ (k.followed _ _ _ _ (k.arrived _ s hs))

theorem meanwhile (e : Meanwhile) (s : State) (hs : P s) : P (meanwhile e s) := by
  unfold Machine.meanwhile
  split
  · exact hs
  · cases e with
    | taking => exact k.taken s hs
    | arrival p => exact k.arrive p s hs
    | goodFrame frame blanking => exact k.frameArrives frame blanking s hs
    | frameWindowExpiry => exact k.expired s hs
    | outputFrameStart order => exact k.begun order s hs
    | drawLine programme => exact k.drawn programme s hs
    | powerOnReset => exact k.powerOn s hs

/-- A completion keeps what its write to the glyphs keeps (spec 02 R26). -/
theorem finishOp (op : InFlight) (among : List Meanwhile) (s : State)
    (hs : P { s with glyphs := completeOp s.glyphs op, engine := { s.engine with op := none } }) :
    P (finishOp op among s) := finishOp_keeps P op among s k.taken k.meanwhile hs

end EventsKeep

namespace StepKeeps

variable {P : State → Prop} (k : StepKeeps P)
include k

theorem submit (h : Header) (c : Command) (s : State) (hs : P s) : P (submit h c s) := by
  unfold Machine.submit
  split
  · exact takeCommand_keeps k.refused k.applied h c s hs
  · exact k.offered _ s hs

theorem submitEntry (e : Entry) (s : State) (hs : P s) : P (submitEntry e s) := by
  unfold Machine.submitEntry
  split
  · exact takeEntry_keeps k.refused k.applied e s hs
  · exact k.offered e s hs

theorem releaseReset (guardFirst : Bool) (order : List FrameAct) (s : State) (hs : P s) :
    P (releaseReset guardFirst order s) := by
  cases guardFirst with
  | true => exact k.begun order _ (k.joined _ (k.released s hs))
  | false => exact k.joined _ (k.begun order _ (k.released s hs))

theorem completeGlyphRows (among : List Meanwhile) (s : State) (hs : P s) : P (completeGlyphRows among s) := by
  unfold Machine.completeGlyphRows
  split
  · exact k.finished _ among s hs
  · exact hs

theorem completeFontClear (among : List Meanwhile) (s : State) (hs : P s) : P (completeFontClear among s) := by
  unfold Machine.completeFontClear
  split
  · exact k.finished _ among s hs
  · exact hs

omit k in
theorem whileRunning (f : State → State) (hf : ∀ s, P s → P (f s)) (s t : State) (hs : P s)
    (ht : whileRunning f s = .next t) : P t := by
  cases ht
  split
  · exact hs
  · exact hf s hs

/-- Every command and event; a command row is its packet, submitted (spec 02 R18, R21). -/
theorem exec (i : Instr) (s t : State) (hs : P s) (ht : exec i s = .next t) : P t := by
  cases i with
  | powerOnReset => cases ht; exact k.powerOn s hs
  | resetRelease guardFirst order => cases ht; exact k.releaseReset guardFirst order s hs
  | goodFrame frame blanking => exact whileRunning _ (k.frameArrives frame blanking) s t hs ht
  | frameWindowExpiry => exact whileRunning _ k.expired s t hs ht
  | outputFrameStart order => exact whileRunning _ (k.begun order) s t hs ht
  | packetArrival p => exact whileRunning _ (k.arrive p) s t hs ht
  | damagedEntry e => exact whileRunning _ (k.submitEntry _) s t hs ht
  | unknownCommand h code payload => exact whileRunning _ (k.submitEntry _) s t hs ht
  | glyphRowsCompletion among => exact whileRunning _ (k.completeGlyphRows among) s t hs ht
  | fontClearCompletion among => exact whileRunning _ (k.completeFontClear among) s t hs ht
  | drawLine programme => exact whileRunning _ (k.drawn programme) s t hs ht
  | _ => exact whileRunning _ (k.submit _ _) s t hs ht

/-- What each operation keeps, every step keeps. -/
theorem step (s t : State) (hs : P s) (ht : step s = .next t) : P t := by
  unfold Machine.step at ht
  split at ht
  · cases ht; exact hs
  · rename_i c rest _
    exact k.exec c _ t (k.pending rest s hs) ht

end StepKeeps

/-! ## Properties that the guard unit, the keyer, the intake and the engine do not enter -/

/-- The state with the guard unit, the missing-glyph counter and the keyer replaced: all that a recomputation touches (spec
11 R174, R175). -/
def touchGuard (g : GuardUnit) (n : Counter) (k : Keyer) (s : State) : State :=
  { s with guard := g, glyphs := { s.glyphs with missing := n }, keyer := k }

theorem recompute_touches (s : State) : ∃ g n k, recompute s = touchGuard g n k s := by
  obtain ⟨r, f, n, k, h, _⟩ := recompute_frame s
  exact ⟨_, n, k, h⟩

theorem resolveSlate_touches (s : State) : ∃ g n k, resolveSlate s = touchGuard g n k s := by
  obtain ⟨r, f, n, h⟩ := resolveSlate_frame s
  exact ⟨_, n, s.keyer, h⟩

/-- `P` is kept by each of the effects of commands, the guard unit and the keyer entering it nowhere. -/
structure EffectsKeep (P : State → Prop) : Prop where
  guarded : ∀ g n k s, P s → P (touchGuard g n k s)
  refused : ∀ q c r s, P s → P (refuse q c r s)
  begins : ∀ op s, P s → P { s with engine := { s.engine with op := some op } }
  runReset : ∀ s, P s → P (resetRunBlocks s)
  allReset : ∀ s, P s → P (resetAllBlocks s)
  settings : ∀ f s, groupOutOfRange f = false → P s → P (putInput (deviceFilter f s.input) (storeSettings f s))
  stored : ∀ s t, StoreEffect s t → P s → P t

namespace EffectsKeep

variable {P : State → Prop} (k : EffectsKeep P)
include k

theorem recompute (s : State) (hs : P s) : P (recompute s) := by
  obtain ⟨g, n, y, h⟩ := recompute_touches s
  exact h ▸ k.guarded g n y s hs

theorem active (a : CauseSet) (s : State) (hs : P s) : P { s with guard := { s.guard with active := a } } :=
  k.guarded { s.guard with active := a } s.glyphs.missing s.keyer s hs

theorem marked (c : Cause) (b : Bool) (s : State) (hs : P s) : P (markCause c b s) := k.active _ s hs

theorem changeInput (u : InputUnit) (s : State) (hs : P (putInput u s)) : P (changeInput u s) := by
  rcases changeInput_cases u s with h | ⟨b, h⟩ <;> rw [h]
  · exact hs
  · exact k.recompute _ (k.marked _ _ _ hs)

theorem joinPresent (s : State) (hs : P s) : P (joinPresent s) := by
  obtain ⟨a, h⟩ := joinPresent_eq s
  exact h ▸ k.recompute _ (k.active a s hs)

theorem storeSlate (c : Option SlateConfig) (s : State) (hs : P s) : P (storeSlate c s) := by
  have h1 := k.guarded { s.guard with slate := c } s.glyphs.missing s.keyer s hs
  unfold Machine.storeSlate
  split
  · obtain ⟨g, n, y, h⟩ := resolveSlate_touches { s with guard := { s.guard with slate := c } }
    exact h ▸ k.guarded g n y _ h1
  · exact h1

theorem setManual (a : Action) (cut : Bool) (s : State) (hs : P s) : P (setManual a cut s) := by
  have h1 := k.guarded { s.guard with manual := true, manualAction := some a } s.glyphs.missing s.keyer s hs
  have h2 := k.recompute _ (k.marked .manual true _ h1)
  cases cut with
  | true => exact k.guarded _ _ (cutToZero _) _ h2
  | false => exact h2

theorem setCauseConfig (c : Cause) (f : CauseConfig) (s : State) (hs : P s) : P (setCauseConfig c f s) := by
  cases c with
  | inputLoss => exact k.guarded { s.guard with inputLoss := f } s.glyphs.missing s.keyer s hs
  | feedLoss => exact k.guarded { s.guard with feedLoss := f } s.glyphs.missing s.keyer s hs
  | intakeOverrun => exact k.guarded { s.guard with intakeOverrun := f } s.glyphs.missing s.keyer s hs
  | manual => exact hs

theorem applied (s t : State) (h : CommandEffect s t) (hs : P s) : P t := by
  cases h with
  | resetRun => exact k.joinPresent _ (k.runReset s hs)
  | resetAll => exact k.joinPresent _ (k.allReset s hs)
  | settings f hg => exact k.changeInput _ _ (k.settings f s hg hs)
  | stored t h => exact k.stored s t h hs
  | begins op => exact k.begins op s hs
  | batch h pairs => exact batchPairs_keeps k.refused (fun n p x u hx => k.stored u _ (.quote n p x hx)) h pairs s hs
  | wish w =>
    unfold wishKey
    split
    · exact k.guarded s.guard s.glyphs.missing _ s hs
    · exact k.guarded s.guard s.glyphs.missing _ s hs
  | cause c f b => exact k.recompute _ (k.marked _ _ _ (k.setCauseConfig c f s hs))
  | manual a cut => exact k.setManual a cut s hs
  | release a =>
    exact k.recompute _ (k.guarded { s.guard with manual := false, active := a } s.glyphs.missing s.keyer s hs)
  | slate c => exact k.storeSlate c s hs

theorem takeEntry (e : Entry) (s : State) (hs : P s) : P (takeEntry e s) :=
  takeEntry_keeps k.refused k.applied e s hs

end EffectsKeep

/-- `P` is kept by each of the operations that steps are made of, the guard unit, the keyer, the intake and the engine
entering it nowhere. -/
structure PartsKeep (P : State → Prop) : Prop where
  guarded : ∀ g n k s, P s → P (touchGuard g n k s)
  queued : ∀ i e s, P s → P { s with intake := i, engine := e }
  pending : ∀ rest s, P s → P { s with pending := rest }
  pins : ∀ p s, P s → P { s with pins := p }
  powerOn : ∀ s, P s → P (powerOnReset s)
  runReset : ∀ s, P s → P (resetRunBlocks s)
  allReset : ∀ s, P s → P (resetAllBlocks s)
  settings : ∀ f s, P s → P (putInput (deviceFilter f s.input) (storeSettings f s))
  begun : ∀ order s, P s → P (frameStart order s)
  arrived : ∀ f s, P s → P (putInput (goodFrameInput f s.input) s)
  expired : ∀ s, P s → P (putInput (expiryInput s.input) s)
  followed : ∀ f blanking before s, P s → P (followFrame f blanking before s)
  drawn : ∀ programme s, P s → P (drawLine programme s)
  stored : ∀ s t, StoreEffect s t → P s → P t
  completed : ∀ op s, P s → P { s with glyphs := completeOp s.glyphs op }

namespace PartsKeep

variable {P : State → Prop} (k : PartsKeep P)
include k

theorem effectsKeep : EffectsKeep P where
  guarded := k.guarded
  refused _ _ _ s hs := k.queued s.intake _ s hs
  begins _ s hs := k.queued s.intake _ s hs
  runReset := k.runReset
  allReset := k.allReset
  settings f s _ hs := k.settings f s hs
  stored := k.stored

theorem removed (rest : List Entry) (s : State) (hs : P s) : P (removeOldest rest s) := by
  obtain ⟨b, a, h⟩ := removeOldest_frame rest s
  exact h ▸ k.effectsKeep.active a _ (k.queued { s.intake with queue := rest, latch := b } s.engine s hs)

theorem takeOldest (s : State) (hs : P s) : P (takeOldest s) :=
  takeOldest_keeps k.effectsKeep.refused k.effectsKeep.applied k.removed k.effectsKeep.recompute s hs

theorem offer (e : Entry) (s : State) (hs : P s) : P (offer e s) := by
  unfold Machine.offer
  split
  · exact k.takeOldest _ (k.queued { s.intake with queue := s.intake.queue ++ [e] } s.engine s hs)
  · have hd : P (countDrop s) := k.queued _ s.engine s hs
    rcases dropPacket_cases s with h | h <;> rw [h]
    · exact hd
    · exact k.effectsKeep.recompute _ (k.effectsKeep.marked _ _ _ hd)

theorem eventsKeep : EventsKeep P where
  powerOn := k.powerOn
  begun := k.begun
  arrived f s hs := k.effectsKeep.changeInput _ s (k.arrived f s hs)
  followed := k.followed
  expired s hs := k.effectsKeep.changeInput _ s (k.expired s hs)
  drawn := k.drawn
  taken := k.takeOldest
  offered := k.offer

theorem stepKeeps : StepKeeps P where
  toEventsKeep := k.eventsKeep
  pending := k.pending
  released s hs := k.pins _ s hs
  joined := k.effectsKeep.joinPresent
  refused := k.effectsKeep.refused
  applied := k.effectsKeep.applied
  finished op among s hs :=
    k.eventsKeep.finishOp op among s (k.queued s.intake { s.engine with op := none } _ (k.completed op s hs))

end PartsKeep

/-- What the drawing of a line touches: the lanes and the renderer (spec 10 R157, R160 to R162). -/
theorem drawLine_frame (programme : Option (List Pixel)) (s : State) :
    ∃ ls r, drawLine programme s = { s with lanes := ls, renderer := r } := by
  unfold drawLine
  split
  · exact ⟨s.lanes, s.renderer, rfl⟩
  · rename_i fr _
    split
    · obtain ⟨ls, q, h, _⟩ := mixLine_frame s.palette fr s.renderer.nextLine programme s
      exact ⟨ls, _, by simp only [drawNext, h]; rfl⟩
    · exact ⟨s.lanes, s.renderer, rfl⟩

/-- What the drawing of the line that an output frame start overtakes touches (spec 10 R160). -/
theorem overtakeLine_frame (ending : State) (programme : Option (List Pixel)) (s : State) :
    ∃ ls r, overtakeLine ending programme s = { s with lanes := ls, renderer := r } := by
  rcases overtakeLine_cases ending programme s with h | ⟨fr, _, _, h⟩
  · exact ⟨s.lanes, s.renderer, h⟩
  · obtain ⟨ls, q, h', _⟩ := mixLine_frame ending.palette fr ending.renderer.nextLine programme s
    exact ⟨ls, _, h.trans h'⟩

end Sys2Proof.Machine
end

section
/-! PROOFS. The input unit and the timing mode: every step keeps the counts and formats that go with the input state (spec 01
R2 to R4), and FOLLOWING exactly while LOCKED (spec 01 R7). -/

namespace Sys2Proof.Machine

open Sys2Proof

/-! ## The counts and formats of the input unit -/

/-- What `inputSound` asks of the fields that go with an input state (spec 01 R2 to R4). -/
theorem inputSound_iff (u : InputUnit) : inputSound u = true ↔ (1 ≤ u.lossFilter ∧ u.lossFilter ≤ 15) ∧
    match u.state with
    | .noSignal => u.candidate = none ∧ u.goodCount = 0 ∧ u.missCount = 0
    | .acquiring => u.candidate.isSome = true ∧ u.goodCount = 1 ∧ u.missCount < u.lossFilter
    | .locked => u.lockedFormat.isSome = true ∧ u.candidate = none ∧ u.goodCount = 0 ∧ u.missCount = 0
    | .holdover => u.lockedFormat.isSome = true ∧ u.candidate = none ∧ u.goodCount = 0 ∧ u.missCount < u.lossFilter := by
  unfold inputSound
  cases u.state <;> simp [and_assoc]

theorem goodFrameInput_sound (f : Format) (u : InputUnit) (h : inputSound u = true) :
    inputSound (goodFrameInput f u) = true := by
  rw [inputSound_iff] at h ⊢
  unfold goodFrameInput
  cases hs : u.state <;> simp only [hs] at h ⊢
  case noSignal => simp [acquire, h]; omega
  case acquiring =>
    split
    · rw [if_pos (by omega)]; simp [lockOn, h]
    · simp [acquire, h]
  case locked =>
    split
    · simp [h]
    · simp [acquire, h]; omega
  case holdover =>
    split
    · simp [h]
    · simp [acquire, h]

theorem loseSignal_sound (u : InputUnit) (h : 1 ≤ u.lossFilter ∧ u.lossFilter ≤ 15) :
    inputSound (loseSignal u) = true := by
  rw [inputSound_iff]; simp [loseSignal, h]

theorem expiryInput_sound (u : InputUnit) (h : inputSound u = true) : inputSound (expiryInput u) = true := by
  have hf := ((inputSound_iff u).1 h).1
  rw [inputSound_iff] at h
  unfold expiryInput
  cases hs : u.state <;> simp only [hs] at h ⊢
  case noSignal => rw [inputSound_iff]; simp [hs, h]
  all_goals
    split
    · rw [inputSound_iff]; simp [h]; omega
    · exact loseSignal_sound _ hf

/-- A new filter with its check leaves a sound unit (spec 01 R4). -/
theorem filterCheck_sound (n : Nat) (u : InputUnit) (hn : 1 ≤ n ∧ n ≤ 15) (h : inputSound u = true) :
    inputSound (filterCheck { u with lossFilter := n }) = true := by
  rw [inputSound_iff] at h
  unfold filterCheck
  cases hs : u.state <;> simp only [hs] at h ⊢
  case noSignal => rw [inputSound_iff]; simp [h, hn]
  case locked => rw [inputSound_iff]; simp [h, hn]
  all_goals
    split
    · exact loseSignal_sound _ hn
    · rw [inputSound_iff]; simp [h, hn]; omega

theorem deviceFilter_sound (f : DeviceFields) (u : InputUnit) (h : inputSound u = true) :
    inputSound (deviceFilter f u) = true := by
  unfold deviceFilter
  split
  · exact filterCheck_sound _ u (clampTo_bounds 1 15 _ (by decide)) h
  · exact h

/-! ## The input unit and the timing mode -/

/-- The input unit is sound, and the timing mode is that of its state. -/
def InputAndModeSound (s : State) : Prop := inputSound s.input = true ∧ ModeFollowsLock s

theorem putInput_sound (u : InputUnit) (s : State) (h : inputSound u = true) : InputAndModeSound (putInput u s) := by
  refine ⟨h, ?_⟩
  show modeOf u.state = .following ↔ u.state = .locked
  unfold modeOf
  split <;> simp_all

/-- A state like a sound one in the input unit and the timing mode is sound. -/
theorem InputAndModeSound.of_same {s t : State} (h : InputAndModeSound s) (hi : t.input = s.input)
    (hm : t.timing.mode = s.timing.mode) : InputAndModeSound t := by
  unfold InputAndModeSound ModeFollowsLock at *
  rw [hi, hm]; exact h

/-- No act of an output frame start moves the input unit or the timing mode (spec 01 R9). -/
theorem makeAct_input_mode (changed : Bool) (a : FrameAct) (r : FrameRun) :
    (makeAct changed a r).state.input = r.state.input ∧
      (makeAct changed a r).state.timing.mode = r.state.timing.mode := by
  cases a with
  | lane m => exact ⟨rfl, rfl⟩
  | snapshot m => exact ⟨rfl, rfl⟩
  | quote => exact ⟨rfl, rfl⟩
  | guard =>
    rcases guardEvaluate_cases r.state with h | ⟨b, h⟩ <;> simp only [makeAct, h, and_self]
    obtain ⟨g, n, k, h'⟩ := recompute_touches (markCause .feedLoss b r.state)
    rw [h']; exact ⟨rfl, rfl⟩
  | keyer => exact ⟨rfl, rfl⟩
  | report => exact ⟨rfl, rfl⟩
  | line programme =>
    obtain ⟨ls, q, h⟩ := overtakeLine_frame r.ending programme r.state
    simp [makeAct, h]

theorem frameStart_input_mode (order : List FrameAct) (s : State) (h : InputAndModeSound s) :
    InputAndModeSound (frameStart order s) :=
  frameStart_keeps (P := InputAndModeSound) (fun _ hs => hs.of_same rfl rfl)
    (fun changed a r hs => hs.of_same (makeAct_input_mode changed a r).1 (makeAct_input_mode changed a r).2)
    (fun _ hs => hs.of_same rfl rfl) order s h

theorem inputAndModeSound_partsKeep : PartsKeep InputAndModeSound where
  guarded _ _ _ _ hs := hs
  queued _ _ _ hs := hs
  pending _ _ hs := hs
  pins _ _ hs := hs
  powerOn _ _ := ⟨rfl, iff_of_false nofun nofun⟩
  runReset _ hs := hs
  allReset s hs := putInput_sound _ _ (filterCheck_sound 3 s.input (by decide) hs.1)
  settings f s hs := putInput_sound _ _ (deviceFilter_sound f s.input hs.1)
  begun := frameStart_input_mode
  arrived f s hs := putInput_sound _ s (goodFrameInput_sound f s.input hs.1)
  expired s hs := putInput_sound _ s (expiryInput_sound s.input hs.1)
  followed f blanking before s hs := by
    obtain ⟨starts, h, _⟩ := followFrame_frame f blanking before s
    exact hs.of_same (by rw [h]) (by rw [h])
  drawn programme s hs := by
    obtain ⟨ls, r, h⟩ := drawLine_frame programme s
    exact hs.of_same (by rw [h]) (by rw [h])
  stored s t h hs := by cases h <;> exact hs
  completed _ _ hs := hs

/-- Settles O7: the input unit is set by the tables of spec 01 R2 to R4 alone, the mode with it. -/
theorem inputUnitAndModeStaySound : Obligations.InputUnitAndModeStaySound :=
  fun s t hi hm ht => inputAndModeSound_partsKeep.stepKeeps.step s t ⟨hi, hm⟩ ht

end Sys2Proof.Machine
end

section
/-! PROOFS. The intake and the engine between steps: at most 16 entries wait, none while the engine is IDLE, the latch is set
only while some wait, the group address is 0..30 (spec 02 R18 to R21, R27), and at most 8 replies wait (spec 12 R186). -/

namespace Sys2Proof.Machine

open Sys2Proof

/-! ## What holds among takings too -/

/-- What holds of the intake and the reply queue at every moment of a step: `IntakeSound` but for the clause on an IDLE
engine, which a completion breaks until it has taken what waits. -/
def QueuesSound (s : State) : Prop :=
  s.intake.queue.length ≤ 16 ∧ (s.intake.latch = true → s.intake.queue ≠ []) ∧
    (∀ g, s.intake.groupAddress = some g → g ≤ 30) ∧ RepliesSound s

/-- Between steps no entry waits while the engine is IDLE (spec 02 R21). -/
def WaitsOnlyWhileBusy (s : State) : Prop := s.engine.op = none → s.intake.queue = []

theorem QueuesSound.of_same {s t : State} (h : QueuesSound s) (hi : t.intake = s.intake) (hr : t.report = s.report) :
    QueuesSound t := by
  unfold QueuesSound RepliesSound at *
  rw [hi, hr]; exact h

/-- A group address that is stored lies in 0..30 (spec 02 R27). -/
theorem groupField_le (b : Byte) (g : Nat) (h : groupField b = some (some g)) : g ≤ 30 := by
  unfold groupField at h
  split at h
  · cases h
  · split at h
    · cases h; assumption
    · cases h

theorem deviceIntake_queue (f : DeviceFields) (i : Intake) :
    (deviceIntake f i).queue = i.queue ∧ (deviceIntake f i).latch = i.latch := by
  unfold deviceIntake; split <;> exact ⟨rfl, rfl⟩

theorem deviceIntake_group (f : DeviceFields) (i : Intake) (hi : ∀ g, i.groupAddress = some g → g ≤ 30) :
    ∀ g, (deviceIntake f i).groupAddress = some g → g ≤ 30 := by
  intro g hg
  unfold deviceIntake at hg
  split at hg
  · rename_i b _
    cases hb : groupField b with
    | none => exact hi g (by simpa [hb] using hg)
    | some a => exact groupField_le b g (by rw [hb]; simpa [hb] using hg)
  · exact hi g hg

theorem queuesSound_effectsKeep : EffectsKeep QueuesSound where
  guarded _ _ _ _ hs := hs
  refused _ _ _ _ hs := hs
  begins _ _ hs := hs
  runReset _ hs := ⟨Nat.zero_le _, nofun, hs.2.2.1, Nat.zero_le _⟩
  allReset _ _ := ⟨Nat.zero_le _, nofun, nofun, Nat.zero_le _⟩
  settings f s _ hs := by
    obtain ⟨hq, hl, hg, hr⟩ := hs
    obtain ⟨eq, el⟩ := deviceIntake_queue f s.intake
    exact ⟨by simpa [eq] using hq, by simpa [eq, el] using hl, deviceIntake_group f s.intake hg, hr⟩
  stored s t h hs := by
    cases h with
    | reply r hr =>
      refine ⟨hs.1, hs.2.1, hs.2.2.1, ?_⟩
      simp only [RepliesSound, List.length_append, List.length_singleton]; omega
    | _ => exact hs

/-- The effects of a command add no entry to the queue. -/
theorem queueAtMost_effectsKeep (n : Nat) : EffectsKeep fun s => s.intake.queue.length ≤ n where
  guarded _ _ _ _ hs := hs
  refused _ _ _ _ hs := hs
  begins _ _ hs := hs
  runReset _ _ := Nat.zero_le _
  allReset _ _ := Nat.zero_le _
  settings f s _ hs := by simpa [(deviceIntake_queue f s.intake).1] using hs
  stored s t h hs := by cases h <;> exact hs

theorem waitsOnlyWhileBusy_effectsKeep : EffectsKeep WaitsOnlyWhileBusy where
  guarded _ _ _ _ hs := hs
  refused _ _ _ _ hs := hs
  begins _ _ _ := nofun
  runReset _ _ _ := rfl
  allReset _ _ _ := rfl
  settings f s _ hs := by simpa [WaitsOnlyWhileBusy, (deviceIntake_queue f s.intake).1] using hs
  stored s t h hs := by cases h <;> exact hs

/-! ## Removal, taking, offering -/

/-- A removal takes the oldest entry, and clears the latch where none is left (spec 02 R20, R21). -/
theorem removeOldest_intake (rest : List Entry) (s : State) : (removeOldest rest s).intake =
    { s.intake with queue := rest, latch := s.intake.latch && !rest.isEmpty } := by
  unfold removeOldest
  cases rest with
  | nil =>
    cases hl : s.intake.latch with
    | true => obtain ⟨a, h⟩ := clearLatch_frame { s with intake := { s.intake with queue := [] } }; simp [h]
    | false => simp [hl]
  | cons e es => simp

theorem removeOldest_report (rest : List Entry) (s : State) : (removeOldest rest s).report = s.report := by
  obtain ⟨b, a, h⟩ := removeOldest_frame rest s
  rw [h]

theorem settleTaking_keeps {P : State → Prop} (recomputed : ∀ s, P s → P (recompute s)) (before : CauseSet)
    (removed s : State) (hs : P s) : P (settleTaking before removed s) := by
  rcases settleTaking_cases before removed s with h | h <;> rw [h]
  · exact hs
  · exact recomputed s hs

theorem takeOldest_queuesSound (s : State) (hs : QueuesSound s) : QueuesSound (takeOldest s) := by
  unfold takeOldest
  split
  · rename_i e rest _ hq
    obtain ⟨hlen, _, hg, hr⟩ := hs
    have hremoved : QueuesSound (removeOldest rest s) := by
      unfold QueuesSound RepliesSound
      rw [removeOldest_intake, removeOldest_report]
      refine ⟨?_, ?_, hg, hr⟩
      · simp only [hq, List.length_cons] at hlen ⊢; omega
      · cases rest <;> simp
    exact settleTaking_keeps queuesSound_effectsKeep.recompute _ _ _
      (queuesSound_effectsKeep.takeEntry e _ hremoved)
  · exact hs

/-- A taking leaves fewer entries waiting (spec 02 R21). -/
theorem takeOldest_queue_length (s : State) (n : Nat) (ho : s.engine.op = none) (h : s.intake.queue.length ≤ n + 1) :
    (takeOldest s).intake.queue.length ≤ n := by
  unfold takeOldest
  split
  · rename_i e rest _ hq
    have hremoved : (removeOldest rest s).intake.queue.length ≤ n := by
      rw [removeOldest_intake]; simp only [hq, List.length_cons] at h ⊢; omega
    exact settleTaking_keeps (queueAtMost_effectsKeep n).recompute _ _ _
      ((queueAtMost_effectsKeep n).takeEntry e _ hremoved)
  · rename_i hn
    cases hq : s.intake.queue with
    | nil => simp
    | cons e rest => exact absurd hq (hn e rest ho)

/-- Takings, one for each entry, leave the engine BUSY or the queue empty (spec 02 R21). -/
theorem takeUpTo_waitsOnlyWhileBusy (n : Nat) (s : State) (h : s.intake.queue.length ≤ n) :
    WaitsOnlyWhileBusy (takeUpTo n s) := by
  induction n generalizing s with
  | zero => exact fun _ => List.eq_nil_of_length_eq_zero (Nat.le_zero.1 h)
  | succ n ih =>
    cases ho : s.engine.op with
    | none => exact ih _ (takeOldest_queue_length s n ho h)
    | some op =>
      rw [takeUpTo_busy _ s (by simp [ho])]
      exact fun hn => absurd (hn.symm.trans ho) nofun

theorem dropPacket_queuesSound (s : State) (hs : QueuesSound s)
    (h : 16 ≤ s.intake.queue.length ∨ s.intake.latch = true) : QueuesSound (dropPacket s) := by
  have hne : s.intake.queue ≠ [] := by
    rcases h with h | h
    · intro he; simp [he] at h
    · exact hs.2.1 h
  have hd : QueuesSound (countDrop s) := ⟨hs.1, fun _ => hne, hs.2.2⟩
  rcases dropPacket_cases s with he | he <;> rw [he]
  · exact hd
  · exact queuesSound_effectsKeep.recompute _ (queuesSound_effectsKeep.marked _ _ _ hd)

theorem offer_queuesSound (e : Entry) (s : State) (hs : QueuesSound s) : QueuesSound (offer e s) := by
  unfold offer
  split
  · rename_i h
    refine takeOldest_queuesSound _ ⟨?_, fun _ => ?_, hs.2.2⟩
    · simp only [appendEntry_intake, List.length_append, List.length_singleton]; omega
    · simp
  · rename_i h
    refine dropPacket_queuesSound s hs ?_
    cases hl : s.intake.latch <;> simp_all

/-! ## Events and steps -/

/-- No act of an output frame start moves the intake, the engine or the reply queue (spec 01 R9). -/
theorem makeAct_queues (changed : Bool) (a : FrameAct) (r : FrameRun) :
    (makeAct changed a r).state.intake = r.state.intake ∧ (makeAct changed a r).state.engine = r.state.engine ∧
      (makeAct changed a r).state.report = r.state.report := by
  cases a with
  | guard =>
    rcases guardEvaluate_cases r.state with h | ⟨b, h⟩ <;> simp only [makeAct, h, and_self]
    obtain ⟨g, n, k, h'⟩ := recompute_touches (markCause .feedLoss b r.state)
    rw [h']; exact ⟨rfl, rfl, rfl⟩
  | line programme =>
    obtain ⟨ls, q, h⟩ := overtakeLine_frame r.ending programme r.state
    simp [makeAct, h]
  | _ => exact ⟨rfl, rfl, rfl⟩

theorem frameStart_queuesSound (order : List FrameAct) (s : State) (hs : QueuesSound s) :
    QueuesSound (frameStart order s) := by
  refine frameStart_keeps (P := QueuesSound) (fun _ h => h) (fun changed a r h => ?_) (fun r h => ?_) order s hs
  · obtain ⟨hi, _, hr⟩ := makeAct_queues changed a r
    exact h.of_same hi hr
  · obtain ⟨hq, hl, hg, hr⟩ := h
    refine ⟨hq, hl, hg, ?_⟩
    show (r.state.report.replies.drop 3).length ≤ 8
    simp only [List.length_drop]
    exact Nat.le_trans (Nat.sub_le _ _) hr

theorem queuesSound_eventsKeep : EventsKeep QueuesSound where
  powerOn _ _ := ⟨Nat.zero_le _, nofun, nofun, Nat.zero_le _⟩
  begun := frameStart_queuesSound
  arrived _ _ hs := queuesSound_effectsKeep.changeInput _ _ hs
  followed f blanking before s hs := by
    obtain ⟨starts, h, _⟩ := followFrame_frame f blanking before s
    rw [h]; exact hs
  expired _ hs := queuesSound_effectsKeep.changeInput _ _ hs
  drawn programme s hs := by
    obtain ⟨ls, r, h⟩ := drawLine_frame programme s
    rw [h]; exact hs
  taken := takeOldest_queuesSound
  offered := offer_queuesSound

/-- What holds between steps. -/
def SoundBetweenSteps (s : State) : Prop := QueuesSound s ∧ WaitsOnlyWhileBusy s

theorem soundBetweenSteps_effectsKeep : EffectsKeep SoundBetweenSteps where
  guarded _ _ _ _ hs := hs
  refused _ _ _ _ hs := hs
  begins op s hs := ⟨queuesSound_effectsKeep.begins op s hs.1, waitsOnlyWhileBusy_effectsKeep.begins op s hs.2⟩
  runReset s hs := ⟨queuesSound_effectsKeep.runReset s hs.1, waitsOnlyWhileBusy_effectsKeep.runReset s hs.2⟩
  allReset s hs := ⟨queuesSound_effectsKeep.allReset s hs.1, waitsOnlyWhileBusy_effectsKeep.allReset s hs.2⟩
  settings f s h hs :=
    ⟨queuesSound_effectsKeep.settings f s h hs.1, waitsOnlyWhileBusy_effectsKeep.settings f s h hs.2⟩
  stored s t h hs :=
    ⟨queuesSound_effectsKeep.stored s t h hs.1, waitsOnlyWhileBusy_effectsKeep.stored s t h hs.2⟩

/-- Between steps there is nothing to take: the engine is BUSY or the queue empty. -/
theorem takeOldest_of_waitsOnlyWhileBusy (s : State) (h : WaitsOnlyWhileBusy s) : takeOldest s = s := by
  unfold takeOldest
  split
  · rename_i e rest ho hq
    exact absurd (hq.symm.trans (h ho)) nofun
  · rfl

/-- An entry offered between steps waits behind a BUSY engine, is taken at once, or is dropped (spec 02 R18, R19). -/
theorem offer_soundBetweenSteps (e : Entry) (s : State) (hs : SoundBetweenSteps s) : SoundBetweenSteps (offer e s) := by
  refine ⟨offer_queuesSound e s hs.1, ?_⟩
  cases ho : s.engine.op with
  | none =>
    have hq := hs.2 ho
    have hl : s.intake.latch = false := by
      cases hl : s.intake.latch with
      | false => rfl
      | true => exact absurd hq (hs.1.2.1 hl)
    rw [offer_ready e s ho hq hl]
    exact waitsOnlyWhileBusy_effectsKeep.takeEntry e s hs.2
  | some op =>
    unfold offer
    split
    · rw [takeOldest_busy _ (by simp [ho])]
      exact fun h => absurd (h.symm.trans ho) nofun
    · have hd : WaitsOnlyWhileBusy (countDrop s) := fun h => absurd (h.symm.trans ho) nofun
      rcases dropPacket_cases s with he | he <;> rw [he]
      · exact hd
      · exact waitsOnlyWhileBusy_effectsKeep.recompute _ (waitsOnlyWhileBusy_effectsKeep.marked _ _ _ hd)

theorem frameStart_waitsOnlyWhileBusy (order : List FrameAct) (s : State) (hs : WaitsOnlyWhileBusy s) :
    WaitsOnlyWhileBusy (frameStart order s) := by
  refine frameStart_keeps (P := WaitsOnlyWhileBusy) (fun _ h => h) (fun changed a r h => ?_) (fun r h => h) order s hs
  obtain ⟨hi, he, _⟩ := makeAct_queues changed a r
  unfold WaitsOnlyWhileBusy at *
  rw [hi, he]; exact h

theorem soundBetweenSteps_stepKeeps : StepKeeps SoundBetweenSteps where
  powerOn s _ := ⟨queuesSound_eventsKeep.powerOn s ‹SoundBetweenSteps s›.1, fun _ => rfl⟩
  begun order s hs := ⟨frameStart_queuesSound order s hs.1, frameStart_waitsOnlyWhileBusy order s hs.2⟩
  arrived _ _ hs := soundBetweenSteps_effectsKeep.changeInput _ _ hs
  followed f blanking before s hs := by
    obtain ⟨starts, h, _⟩ := followFrame_frame f blanking before s
    rw [h]; exact hs
  expired _ hs := soundBetweenSteps_effectsKeep.changeInput _ _ hs
  drawn programme s hs := by
    obtain ⟨ls, r, h⟩ := drawLine_frame programme s
    rw [h]; exact hs
  taken s hs := (takeOldest_of_waitsOnlyWhileBusy s hs.2).symm ▸ hs
  offered := offer_soundBetweenSteps
  pending _ _ hs := hs
  released _ hs := hs
  joined := soundBetweenSteps_effectsKeep.joinPresent
  refused := soundBetweenSteps_effectsKeep.refused
  applied := soundBetweenSteps_effectsKeep.applied
  finished op among s hs :=
    ⟨queuesSound_eventsKeep.finishOp op among s hs.1, takeUpTo_waitsOnlyWhileBusy _ _ (Nat.le_refl _)⟩

theorem soundBetweenSteps_iff (s : State) : SoundBetweenSteps s ↔ IntakeSound s ∧ RepliesSound s :=
  ⟨fun ⟨⟨hq, hl, hg, hr⟩, hw⟩ => ⟨⟨hq, hw, hl, hg⟩, hr⟩, fun ⟨⟨hq, hw, hl, hg⟩, hr⟩ => ⟨⟨hq, hl, hg, hr⟩, hw⟩⟩

/-- Settles O27: a completion ends in takings until the engine is BUSY or the queue empty, and in every other step an entry
waits behind a BUSY engine alone. -/
theorem intakeStaysSound : Obligations.IntakeStaysSound :=
  fun s t hi hr ht => (soundBetweenSteps_iff t).1
    (soundBetweenSteps_stepKeeps.step s t ((soundBetweenSteps_iff s).2 ⟨hi, hr⟩) ht)

end Sys2Proof.Machine
end

section
/-! PROOFS. The guard unit and the keyer: every step keeps the guard state with the active cause set (spec 11 R174), the slate
with its action (spec 11 R177, R179), and the key level and target in range (spec 10 R163). -/

namespace Sys2Proof.Machine

open Sys2Proof

/-! ## What holds of the guard and the key at every moment of a step -/

/-- The slate and the key agree with the guard state as it stands, whether or not the set has moved since it was computed. -/
def SlateAndKeySound (s : State) : Prop := SlateOnlyWhenSlate s ∧ KeySound s

/-- The slate and the key are sound, and where `b` holds the guard state is that of the set: within a taking that clears the
latch it is not, until the taking's end (log 29). -/
def GuardSoundWhere (b : Prop) (s : State) : Prop := (b → GuardFollowsCauses s) ∧ SlateAndKeySound s

theorem GuardSoundWhere.of_same {b : Prop} {s t : State} (h : GuardSoundWhere b s) (hg : t.guard = s.guard)
    (hk : t.keyer = s.keyer) : GuardSoundWhere b t := by
  unfold GuardSoundWhere SlateAndKeySound SlateOnlyWhenSlate KeySound GuardFollowsCauses at *
  rw [hg, hk]; exact h

theorem Switch.level_le (w : Switch) : w.level ≤ 256 := by cases w <;> decide

theorem aimKey_level_le (k : Keyer) (w : Switch) (h : k.level ≤ 256) : (aimKey k w).level ≤ 256 := by
  show (if k.keyFade = 0 then w.level else k.level) ≤ 256
  split
  · exact w.level_le
  · exact h

/-- A fade stays between the level and the target (spec 10 R165). -/
theorem fadeStep_fields (k : Keyer) (h : k.level ≤ 256) : (fadeStep k).level ≤ 256 ∧ (fadeStep k).target = k.target := by
  have ht := k.target.level_le
  have hstep (n : Nat) := (stepToward_bounds k.level k.target.level n).2
  unfold fadeStep
  split
  · exact ⟨h, rfl⟩
  · split
    · rename_i n _; exact ⟨Nat.le_trans (hstep n) (by omega), rfl⟩
    · split
      · exact ⟨ht, rfl⟩
      · exact ⟨Nat.le_trans (hstep _) (by omega), rfl⟩

/-! ## The guard unit's acts -/

theorem resolveSlate_keyer (s : State) : (resolveSlate s).keyer = s.keyer := by
  obtain ⟨r, f, n, h⟩ := resolveSlate_frame s
  rw [h]

theorem resolveSlate_guard_state (s : State) : (resolveSlate s).guard.state = s.guard.state := by
  obtain ⟨r, f, n, h⟩ := resolveSlate_frame s
  rw [h]

/-- A part whose guard action is SLATE with the key at the target 0 is sound, whether a slate is shown or not. -/
theorem slateAndKeySound_of_slate (s : State) (hg : s.guard.state = .guarded .slate) (hl : s.keyer.level ≤ 256)
    (ht : s.keyer.target = .off) : SlateAndKeySound s := ⟨fun _ => hg, hl, fun _ => ht⟩

theorem slateAndKeySound_of_hidden (s : State) (hr : s.guard.resolved = none) (hk : KeySound s) : SlateAndKeySound s :=
  ⟨fun h => absurd hr h, hk⟩

/-- The table of spec 11 R175, row by row: from a sound part the acts on a change leave a sound part. -/
theorem actOnChange_sound (after : GuardState) (s : State) (hs : SlateAndKeySound s) :
    SlateAndKeySound (actOnChange s.guard.state after { s with guard := { s.guard with state := after } }) := by
  obtain ⟨hslate, hlevel, htarget⟩ := hs
  have hfade : (fadeToZero s.guard.guardFade s.keyer).level ≤ 256 :=
    Nat.le_trans (fadeToZero_fields s.guard.guardFade s.keyer).2.2.2 hlevel
  have hoff : (fadeToZero s.guard.guardFade s.keyer).target = .off := (fadeToZero_fields s.guard.guardFade s.keyer).1
  have hhidden (hn : s.guard.state ≠ .guarded .slate) : s.guard.resolved = none :=
    Classical.byContradiction fun h => hn (hslate h)
  have hresolve : SlateAndKeySound
      (resolveSlate (sendCut { s with guard := { s.guard with state := .guarded .slate } })) := by
    refine slateAndKeySound_of_slate _ (resolveSlate_guard_state _) ?_ ?_ <;> rw [resolveSlate_keyer]
    · exact Nat.zero_le _
    · rfl
  have hrelease : SlateAndKeySound
      (sendRelease (withdrawSlate { s with guard := { s.guard with state := .normal } })) :=
    slateAndKeySound_of_hidden _ rfl ⟨aimKey_level_le _ _ hlevel, fun h => absurd rfl h⟩
  rcases hg : s.guard.state with _ | (_ | _) <;> rcases after with _ | (_ | _)
  case normal.normal => exact slateAndKeySound_of_hidden _ (hhidden (by simp [hg])) ⟨hlevel, fun h => absurd rfl h⟩
  case normal.guarded.clear => exact slateAndKeySound_of_hidden _ (hhidden (by simp [hg])) ⟨hfade, fun _ => hoff⟩
  case normal.guarded.slate => exact hresolve
  case guarded.clear.normal => exact hrelease
  case guarded.clear.guarded.clear =>
    exact slateAndKeySound_of_hidden _ (hhidden (by simp [hg])) ⟨hlevel, fun _ => htarget (by simp [hg])⟩
  case guarded.clear.guarded.slate => exact hresolve
  case guarded.slate.normal => exact hrelease
  case guarded.slate.guarded.clear => exact slateAndKeySound_of_hidden _ rfl ⟨hfade, fun _ => hoff⟩
  case guarded.slate.guarded.slate => exact slateAndKeySound_of_slate _ rfl hlevel (htarget (by simp [hg]))

/-- A recomputation brings the guard state back to the set (spec 11 R174, R175). -/
theorem recompute_sound (b : Prop) (s : State) (hs : SlateAndKeySound s) : GuardSoundWhere b (recompute s) :=
  ⟨fun _ => recompute_state s, actOnChange_sound (guardStateOf s.guard) s hs⟩

/-- A cause put in or taken out with the recomputation that follows. -/
theorem recompute_markCause_sound (b : Prop) (k : Cause) (c : Bool) (s : State) (hs : SlateAndKeySound s) :
    GuardSoundWhere b (recompute (markCause k c s)) := recompute_sound b _ hs

theorem changeInput_sound {b : Prop} (u : InputUnit) (s : State) (hs : GuardSoundWhere b s) :
    GuardSoundWhere b (changeInput u s) := by
  rcases changeInput_cases u s with h | ⟨c, h⟩ <;> rw [h]
  · exact hs
  · exact recompute_markCause_sound b _ _ _ hs.2

theorem guardEvaluate_sound {b : Prop} (s : State) (hs : GuardSoundWhere b s) : GuardSoundWhere b (guardEvaluate s) := by
  rcases guardEvaluate_cases s with h | ⟨c, h⟩ <;> rw [h]
  · exact hs
  · exact recompute_markCause_sound b _ _ _ hs.2

/-! ## Commands -/

theorem wishKey_sound {b : Prop} (w : Switch) (s : State) (hs : GuardSoundWhere b s) :
    GuardSoundWhere b (wishKey w s) := by
  obtain ⟨hf, hslate, hlevel, htarget⟩ := hs
  unfold wishKey
  split
  · exact ⟨hf, hslate, hlevel, htarget⟩
  · rename_i hn
    exact ⟨hf, hslate, aimKey_level_le _ w hlevel, fun h => absurd (by simpa [isGuarded] using hn) h⟩

theorem storeSlate_sound {b : Prop} (c : Option SlateConfig) (s : State) (hs : GuardSoundWhere b s) :
    GuardSoundWhere b (storeSlate c s) := by
  obtain ⟨hf, hslate, hlevel, htarget⟩ := hs
  have hstored : GuardSoundWhere b { s with guard := { s.guard with slate := c } } :=
    ⟨fun hb => hf hb, hslate, hlevel, htarget⟩
  unfold storeSlate
  split
  · rename_i hg
    obtain ⟨r, f, n, h⟩ := resolveSlate_frame { s with guard := { s.guard with slate := c } }
    rw [h]
    exact ⟨fun hb => hf hb, slateAndKeySound_of_slate _ hg hlevel (htarget (by simp [hg]))⟩
  · exact hstored

theorem setManual_sound (b : Prop) (a : Action) (cut : Bool) (s : State) (hs : SlateAndKeySound s) :
    GuardSoundWhere b (setManual a cut s) := by
  have h : GuardSoundWhere b (recompute (markCause .manual true
      { s with guard := { s.guard with manual := true, manualAction := some a } })) := recompute_sound b _ hs
  cases cut with
  | true => exact ⟨h.1, h.2.1, Nat.zero_le _, fun _ => rfl⟩
  | false => exact h

theorem setCauseConfig_slateAndKey (k : Cause) (c : CauseConfig) (s : State) (hs : SlateAndKeySound s) :
    SlateAndKeySound (setCauseConfig k c s) := by cases k <;> exact hs

/-- A RESET leaves the guard NORMAL and the key at 0 before the conditions are read (spec 10 R163, spec 11 R181). -/
theorem joinPresent_reset_sound (b : Prop) (s : State) (hr : s.guard.resolved = none) (hl : s.keyer.level = 0)
    (ht : s.keyer.target = .off) : GuardSoundWhere b (joinPresent s) :=
  recompute_sound b _ (slateAndKeySound_of_hidden _ hr ⟨hl ▸ Nat.zero_le _, fun _ => ht⟩)

theorem applied_guardSound {b : Prop} (s t : State) (h : CommandEffect s t) (hs : GuardSoundWhere b s) :
    GuardSoundWhere b t := by
  cases h with
  | resetRun => exact joinPresent_reset_sound b _ rfl rfl rfl
  | resetAll => exact joinPresent_reset_sound b _ rfl rfl rfl
  | settings f _ => exact changeInput_sound _ (storeSettings f s) hs
  | stored t h => cases h <;> exact hs
  | begins op => exact hs
  | batch h pairs => exact batchPairs_keeps (fun _ _ _ _ hu => hu) (fun _ _ _ _ _ hu => hu) h pairs s hs
  | wish w => exact wishKey_sound w s hs
  | cause k c d => exact recompute_sound b _ (setCauseConfig_slateAndKey k c s hs.2)
  | manual a cut => exact setManual_sound b a cut s hs.2
  | release a => exact recompute_sound b _ hs.2
  | slate c => exact storeSlate_sound c s hs

theorem refused_guardSound {b : Prop} (q c : Byte) (r : Reason) (s : State) (hs : GuardSoundWhere b s) :
    GuardSoundWhere b (refuse q c r s) := hs

theorem takeEntry_guardSound {b : Prop} (e : Entry) (s : State) (hs : GuardSoundWhere b s) :
    GuardSoundWhere b (takeEntry e s) := takeEntry_keeps refused_guardSound applied_guardSound e s hs

/-! ## Takings and events -/

/-- Where the removal takes a cause out, the taking ends in a recomputation; where it does not, the guard state is that of the
set all along (log 29). -/
theorem takeOldest_guardSound (s : State) (hs : GuardSoundWhere True s) : GuardSoundWhere True (takeOldest s) := by
  unfold takeOldest
  split
  · rename_i e rest _ _
    obtain ⟨c, a, h⟩ := removeOldest_frame rest s
    unfold settleTaking
    rw [h]
    split
    · rename_i ha
      refine takeEntry_guardSound e _ (hs.of_same ?_ rfl)
      show { s.guard with active := a } = s.guard
      rw [show a = s.guard.active from ha]
    · have hremoved : GuardSoundWhere False { s with
          intake := { s.intake with queue := rest, latch := c }, guard := { s.guard with active := a } } :=
        ⟨False.elim, hs.2⟩
      exact recompute_sound _ _ (takeEntry_guardSound e _ hremoved).2
  · exact hs

theorem offer_guardSound (e : Entry) (s : State) (hs : GuardSoundWhere True s) : GuardSoundWhere True (offer e s) := by
  unfold offer
  split
  · exact takeOldest_guardSound _ hs
  · rcases dropPacket_cases s with h | h <;> rw [h]
    · exact hs
    · exact recompute_markCause_sound _ _ _ _ hs.2

theorem makeAct_guardSound (changed : Bool) (a : FrameAct) (r : FrameRun) (hs : GuardSoundWhere True r.state) :
    GuardSoundWhere True (makeAct changed a r).state := by
  cases a with
  | guard => exact guardEvaluate_sound r.state hs
  | keyer =>
    obtain ⟨hf, hslate, hlevel, htarget⟩ := hs
    obtain ⟨hl, ht⟩ := fadeStep_fields r.state.keyer hlevel
    exact ⟨hf, hslate, hl, fun h => ht.trans (htarget h)⟩
  | line programme =>
    obtain ⟨ls, q, h⟩ := overtakeLine_frame r.ending programme r.state
    exact hs.of_same (by simp [makeAct, h]) (by simp [makeAct, h])
  | _ => exact hs

theorem frameStart_guardSound (order : List FrameAct) (s : State) (hs : GuardSoundWhere True s) :
    GuardSoundWhere True (frameStart order s) :=
  frameStart_keeps (P := GuardSoundWhere True) (fun _ h => h) makeAct_guardSound (fun _ h => h) order s hs

theorem guardSound_eventsKeep : EventsKeep (GuardSoundWhere True) where
  powerOn _ _ := ⟨fun _ => rfl, fun h => absurd rfl h, Nat.zero_le _, fun _ => rfl⟩
  begun := frameStart_guardSound
  arrived f s hs := changeInput_sound _ s hs
  followed f blanking before s hs := by
    obtain ⟨starts, h, _⟩ := followFrame_frame f blanking before s
    rw [h]; exact hs
  expired s hs := changeInput_sound _ s hs
  drawn programme s hs := by
    obtain ⟨ls, r, h⟩ := drawLine_frame programme s
    rw [h]; exact hs
  taken := takeOldest_guardSound
  offered := offer_guardSound

theorem guardSound_stepKeeps : StepKeeps (GuardSoundWhere True) where
  toEventsKeep := guardSound_eventsKeep
  pending _ _ hs := hs
  released _ hs := hs
  joined _ hs := recompute_sound _ _ hs.2
  refused := refused_guardSound
  applied := applied_guardSound
  finished op among s hs := guardSound_eventsKeep.finishOp op among s hs

/-- Settles O59: every move of the set ends in a recomputation, which acts on the change by the table of spec 11 R175. -/
theorem guardAndKeyStaySound : Obligations.GuardAndKeyStaySound := by
  intro s t hf hslate hkey ht
  obtain ⟨hf', hslate', hkey'⟩ := guardSound_stepKeeps.step s t ⟨fun _ => hf, hslate, hkey⟩ ht
  exact ⟨hf' trivial, hslate', hkey'⟩

end Sys2Proof.Machine
end

section
/-! PROOFS. The addressed stores: every write, mark and reset keeps their canonical form. -/

namespace Sys2Proof.Machine

open Sys2Proof

theorem wf_nil {α : Type} (d : α) : Table.wf d ([] : Table α) := ⟨.nil, nofun⟩

/-! ## Symbols -/

/-- A change made to every defined symbol lists the same addresses. -/
theorem mapSymbols_wf (g : Symbol → Symbol) (t : Table (Option Symbol)) (h : Table.wf none t) :
    Table.wf none (mapSymbols g t) := by
  refine ⟨List.pairwise_map.2 h.1, fun e he => ?_⟩
  obtain ⟨d, hd, rfl⟩ := List.mem_map.1 he
  simpa using h.2 d hd

/-- The stores of the quote unit. -/
def QuoteStoresSound (q : QuoteUnit) : Prop := Table.wf none q.symbols ∧ Table.wf Movement.initial q.movement

theorem QuoteStoresSound.setSymbol {q : QuoteUnit} (h : QuoteStoresSound q) (n : Nat) (x : Option Symbol) :
    QuoteStoresSound (setSymbol q n x) := ⟨Table.set_wf none _ n x h.1, h.2⟩

theorem QuoteStoresSound.evaluateStale {q : QuoteUnit} (h : QuoteStoresSound q) : QuoteStoresSound (evaluateStale q) :=
  ⟨mapSymbols_wf _ _ h.1, h.2⟩

theorem QuoteStoresSound.deviceQuote {q : QuoteUnit} (h : QuoteStoresSound q) (form : Format) (f : DeviceFields) :
    QuoteStoresSound (deviceQuote form f q) := by
  have hc : QuoteStoresSound (deviceClasses f q) := h
  have hs : QuoteStoresSound (deviceStale form f (deviceClasses f q)) := by
    unfold deviceStale
    split
    · exact .evaluateStale hc
    · exact hc
  unfold Machine.deviceQuote deviceFeed
  split
  · exact .evaluateStale hs
  · exact hs

theorem QuoteStoresSound.quoteFrame {q : QuoteUnit} (h : QuoteStoresSound q) (form : Format) (changed : Bool) :
    QuoteStoresSound (quoteFrame form changed q) := by
  cases changed with
  | true => exact ⟨mapSymbols_wf _ _ (mapSymbols_wf _ _ h.1), h.2⟩
  | false => exact ⟨mapSymbols_wf _ _ h.1, h.2⟩

/-! ## Glyph slots -/

/-- The rows of a slot are listed in rising order. -/
def RowsRising (x : Glyph) : Prop := x.rows.Pairwise fun a b => a.1 < b.1

theorem rowsRising_blank (fill : Fill) : RowsRising (Glyph.blank fill) := .nil

theorem RowsRising.withRow {x : Glyph} (h : RowsRising x) (row : Nat) (values : List Nat) :
    RowsRising (Glyph.withRow x row values) := by
  unfold RowsRising Glyph.withRow
  dsimp only
  split
  · exact Table.erase_rising _ _ h
  · exact Table.insert_rising _ _ _ h

theorem RowsRising.withRows {x : Glyph} (h : RowsRising x) (first : Nat) (rows : List (List Nat)) :
    RowsRising (Glyph.withRows x first rows) := by
  induction rows generalizing x first with
  | nil => exact h
  | cons r rs ih => exact ih (h.withRow first r) _

theorem RowsRising.undefineRows {x : Glyph} (h : RowsRising x) (k first count : Nat) :
    RowsRising (Glyph.undefineRows k x first count) := by
  induction count generalizing x first with
  | zero => exact h
  | succ n ih => exact ih (x := { x with rows := _ }) (Table.insert_rising _ _ _ h) _

/-- The stores of the glyph store. -/
def GlyphStoresSound (g : GlyphStore) : Prop :=
  Table.wf (Glyph.blank g.fill) g.slots ∧ (∀ m ∈ g.maps.toList, Table.wf none m) ∧ ∀ e ∈ g.slots, RowsRising e.2

theorem find_mem {α : Type} (t : Table α) (k : Nat) (a : α) (h : Table.find t k = some a) : (k, a) ∈ t := by
  induction t with
  | nil => cases h
  | cons e t ih =>
    obtain ⟨j, w⟩ := e
    unfold Table.find at h
    split at h
    · rename_i hj; cases h; simp [hj]
    · exact List.mem_cons_of_mem _ (ih h)

theorem GlyphStoresSound.glyphAt {g : GlyphStore} (h : GlyphStoresSound g) (n : Nat) : RowsRising (glyphAt g n) := by
  unfold Machine.glyphAt Table.get
  cases hf : Table.find g.slots n with
  | none => exact rowsRising_blank _
  | some x => exact h.2.2 _ (find_mem _ _ _ hf)

theorem mem_set {α : Type} [DecidableEq α] (d : α) (t : Table α) (k : Nat) (v : α) (e : Nat × α)
    (h : e ∈ Table.set d t k v) : e = (k, v) ∨ e ∈ t := by
  unfold Table.set at h
  split at h
  · exact .inr (Table.mem_erase t k e h)
  · exact Table.mem_insert t k v e h

theorem GlyphStoresSound.setGlyph {g : GlyphStore} (h : GlyphStoresSound g) (n : Nat) (x : Glyph) (hx : RowsRising x) :
    GlyphStoresSound (setGlyph g n x) := by
  refine ⟨Table.set_wf _ _ n x h.1, h.2.1, fun e he => ?_⟩
  rcases mem_set _ _ _ _ e he with rfl | he
  · exact hx
  · exact h.2.2 e he

theorem GlyphStoresSound.clearRun {g : GlyphStore} (h : GlyphStoresSound g) (base count : Nat) :
    GlyphStoresSound (clearRun g base count) := by
  induction count generalizing g base with
  | zero => exact h
  | succ n ih => exact ih (h.setGlyph base _ (rowsRising_blank _)) _

theorem GlyphStoresSound.completeOp {g : GlyphStore} (h : GlyphStoresSound g) (op : InFlight) :
    GlyphStoresSound (completeOp g op) := by
  cases op with
  | glyphRows f slot => exact h.setGlyph slot _ ((h.glyphAt slot).withRows _ _)
  | fontClear font base count => exact h.clearRun base count

theorem GlyphStoresSound.setMap {g : GlyphStore} (h : GlyphStoresSound g) (font : Nat) (m : Table (Option Nat))
    (hm : Table.wf none m) : GlyphStoresSound { g with maps := g.maps.set font m } := by
  refine ⟨h.1, fun x hx => ?_, h.2.2⟩
  rcases Quad.mem_set _ _ _ _ hx with rfl | hx
  · exact hm
  · exact h.2.1 x hx

theorem glyphStoresSound_initial (fill : Fill) : GlyphStoresSound (.initial fill) :=
  ⟨wf_nil _, fun m hm => Quad.eq_of_mem_all _ m hm ▸ wf_nil none, nofun⟩

/-- A power-on reset keeps at most the slot of a GLYPH_ROWS in flight (spec 04 R49). -/
theorem GlyphStoresSound.powerOn {g : GlyphStore} (h : GlyphStoresSound g) (k : Nat) (op : Option InFlight) :
    GlyphStoresSound { GlyphStore.initial (.undefined k) with slots := abandonedSlots k g op } := by
  obtain ⟨hslots, hmaps, hrows⟩ := glyphStoresSound_initial (.undefined k)
  unfold abandonedSlots
  split
  · rename_i f slot
    refine ⟨Table.set_wf _ _ _ _ hslots, hmaps, fun e he => ?_⟩
    rcases mem_set _ _ _ _ e he with rfl | he
    · exact (h.glyphAt slot).undefineRows _ _ _
    · cases he
  · exact ⟨hslots, hmaps, hrows⟩

/-! ## The whole -/

theorem storesSound_iff (s : State) : StoresSound s ↔ (Memory.wf s.text ∧ Table.wf none s.styles ∧ Table.wf none s.items) ∧
    QuoteStoresSound s.quote ∧ (Table.wf Colour.black s.palette.written ∧ Table.wf Colour.black s.palette.displayed) ∧
    GlyphStoresSound s.glyphs :=
  ⟨fun ⟨a, b, c, d, e, f, g, h⟩ => ⟨⟨a, b, c⟩, ⟨d, e⟩, ⟨f, g⟩, h⟩,
    fun ⟨⟨a, b, c⟩, ⟨d, e⟩, ⟨f, g⟩, h⟩ => ⟨a, b, c, d, e, f, g, h⟩⟩

/-- `StoresSound`, unit by unit. -/
def UnitsSound (s : State) : Prop := (Memory.wf s.text ∧ Table.wf none s.styles ∧ Table.wf none s.items) ∧
  QuoteStoresSound s.quote ∧ (Table.wf Colour.black s.palette.written ∧ Table.wf Colour.black s.palette.displayed) ∧
  GlyphStoresSound s.glyphs

theorem palette_initial_wf : Table.wf Colour.black Palette.initial.written := by decide

theorem quoteStoresSound_initial : QuoteStoresSound .initial := ⟨wf_nil none, wf_nil Movement.initial⟩

theorem makeAct_unitsSound (changed : Bool) (a : FrameAct) (r : FrameRun) (hs : UnitsSound r.state) :
    UnitsSound (makeAct changed a r).state := by
  obtain ⟨htables, hquote, hpalette, hglyphs⟩ := hs
  cases a with
  | quote => exact ⟨htables, hquote.quoteFrame _ _, hpalette, hglyphs⟩
  | guard =>
    rcases guardEvaluate_cases r.state with h | ⟨b, h⟩ <;> simp only [makeAct, h]
    · exact ⟨htables, hquote, hpalette, hglyphs⟩
    · obtain ⟨g, n, k, h'⟩ := recompute_touches (markCause .feedLoss b r.state)
      rw [h']; exact ⟨htables, hquote, hpalette, hglyphs⟩
  | line programme =>
    obtain ⟨ls, q, h⟩ := overtakeLine_frame r.ending programme r.state
    simp only [makeAct, h]; exact ⟨htables, hquote, hpalette, hglyphs⟩
  | _ => exact ⟨htables, hquote, hpalette, hglyphs⟩

theorem stored_unitsSound (s t : State) (h : StoreEffect s t) (hs : UnitsSound s) : UnitsSound t := by
  obtain ⟨⟨htext, hstyles, hitems⟩, hquote, ⟨hwritten, hdisplayed⟩, hglyphs⟩ := hs
  cases h with
  | colours first cs =>
    exact ⟨⟨htext, hstyles, hitems⟩, hquote, ⟨Table.setRun_wf _ _ _ _ hwritten, hdisplayed⟩, hglyphs⟩
  | widths slot a b =>
    exact ⟨⟨htext, hstyles, hitems⟩, hquote, ⟨hwritten, hdisplayed⟩, hglyphs.setGlyph slot _ (hglyphs.glyphAt slot)⟩
  | codes font first es =>
    exact ⟨⟨htext, hstyles, hitems⟩, hquote, ⟨hwritten, hdisplayed⟩,
      hglyphs.setMap font _ (Table.setRun_wf _ _ _ _ (hglyphs.2.1 _ (Quad.get_mem _ _)))⟩
  | style n x =>
    exact ⟨⟨htext, Table.set_wf _ _ _ _ hstyles, hitems⟩, hquote, ⟨hwritten, hdisplayed⟩, hglyphs⟩
  | text o cs => exact ⟨⟨Memory.writeRun_wf _ _ _ htext, hstyles, hitems⟩, hquote, ⟨hwritten, hdisplayed⟩, hglyphs⟩
  | item n x => exact ⟨⟨htext, hstyles, Table.set_wf _ _ _ _ hitems⟩, hquote, ⟨hwritten, hdisplayed⟩, hglyphs⟩
  | symbol n x _ => exact ⟨⟨htext, hstyles, hitems⟩, hquote.setSymbol n x, ⟨hwritten, hdisplayed⟩, hglyphs⟩
  | quote n p x _ =>
    have hset := hquote.setSymbol n.toNat (some (quoteSymbol s.quote (clampPrice p) x))
    exact ⟨⟨htext, hstyles, hitems⟩, hset, ⟨hwritten, hdisplayed⟩, hglyphs⟩
  | movement i e _ =>
    exact ⟨⟨htext, hstyles, hitems⟩, ⟨hquote.1, Table.set_wf _ _ _ _ hquote.2⟩, ⟨hwritten, hdisplayed⟩, hglyphs⟩
  | _ => exact ⟨⟨htext, hstyles, hitems⟩, hquote, ⟨hwritten, hdisplayed⟩, hglyphs⟩

theorem unitsSound_partsKeep : PartsKeep UnitsSound where
  guarded _ _ _ _ hs := hs
  queued _ _ _ hs := hs
  pending _ _ hs := hs
  pins _ _ hs := hs
  powerOn s hs := ⟨⟨wf_nil _, wf_nil none, wf_nil none⟩, quoteStoresSound_initial,
    ⟨palette_initial_wf, palette_initial_wf⟩, hs.2.2.2.powerOn _ _⟩
  runReset _ hs := ⟨hs.1, ⟨mapSymbols_wf _ _ hs.2.1.1, hs.2.1.2⟩, hs.2.2⟩
  allReset _ _ := ⟨⟨wf_nil _, wf_nil none, wf_nil none⟩, quoteStoresSound_initial,
    ⟨palette_initial_wf, palette_initial_wf⟩, glyphStoresSound_initial _⟩
  settings f s hs := ⟨hs.1, hs.2.1.deviceQuote _ f, hs.2.2⟩
  begun := frameStart_keeps (P := UnitsSound) (fun _ h => ⟨h.1, h.2.1, ⟨h.2.2.1.1, h.2.2.1.1⟩, h.2.2.2⟩)
    makeAct_unitsSound (fun _ h => h)
  arrived _ _ hs := hs
  expired _ hs := hs
  followed f blanking before s hs := by
    obtain ⟨starts, h, _⟩ := followFrame_frame f blanking before s
    rw [h]; exact hs
  drawn programme s hs := by
    obtain ⟨ls, r, h⟩ := drawLine_frame programme s
    rw [h]; exact hs
  stored := stored_unitsSound
  completed op _ hs := ⟨hs.1, hs.2.1, hs.2.2.1, hs.2.2.2.completeOp op⟩

/-- Settles O41: every write to a store goes through the table operations, which keep the canonical form. -/
theorem storesStayCanonical : Obligations.StoresStayCanonical := fun s t hs ht =>
  (storesSound_iff t).2 (unitsSound_partsKeep.stepKeeps.step s t ((storesSound_iff s).1 hs) ht)

end Sys2Proof.Machine
end

section
/-! PROOFS. The run of an output frame start: which acts are made and in what order, and what each act leaves as it was, so that
a field is followed from the start to the acts that move it (spec 01 R9, log 5). -/

namespace Sys2Proof.Machine

open Sys2Proof

/-! ## The acts that are made -/

/-- The acts of a list that are made, those of `done` having been made before. -/
def executed (done : List FrameAct) : List FrameAct → List FrameAct
  | [] => []
  | a :: as => if mayAct done a then a :: executed (a :: done) as else executed done as

/-- One act made and marked as done. -/
def actStep (changed : Bool) (r : FrameRun) (a : FrameAct) : FrameRun :=
  { makeAct changed a r with done := a :: r.done }

theorem makeActs_eq_foldl (changed : Bool) (as : List FrameAct) (r : FrameRun) :
    makeActs changed as r = (executed r.done as).foldl (actStep changed) r := by
  induction as generalizing r with
  | nil => rfl
  | cons a as ih =>
    unfold makeActs executed
    rw [ih]
    split
    · rfl
    · rfl

theorem executed_append (done as bs : List FrameAct) :
    executed done (as ++ bs) = executed done as ++ executed ((executed done as).reverse ++ done) bs := by
  induction as generalizing done with
  | nil => rfl
  | cons a as ih =>
    simp only [List.cons_append, executed]
    split
    · simp [ih]
    · exact ih done

/-- An act is made only where it may be, by what was made before it. -/
theorem mayAct_of_executed (done as A B : List FrameAct) (a : FrameAct) (h : executed done as = A ++ a :: B) :
    mayAct (A.reverse ++ done) a = true := by
  induction as generalizing done A with
  | nil => simp [executed] at h
  | cons b as ih =>
    unfold executed at h
    split at h
    · rename_i hb
      cases A with
      | nil => cases h; exact hb
      | cons c A =>
        obtain ⟨rfl, ht⟩ := List.cons.inj h
        simpa using ih (b :: done) A ht
    · exact ih done A h

theorem not_mem_of_mayAct (done : List FrameAct) (a : FrameAct) (h : mayAct done a = true) : a ∉ done := by
  cases a with
  | line p =>
    intro hm
    simp only [mayAct, Bool.not_eq_true', List.any_eq_false] at h
    exact h _ hm rfl
  | snapshot m => intro hm; simp [mayAct, hm] at h
  | _ => intro hm; simp [mayAct, hm] at h

theorem mem_executed (done as : List FrameAct) (a : FrameAct) (h : a ∈ executed done as) : a ∈ as := by
  induction as generalizing done with
  | nil => exact h
  | cons b as ih =>
    unfold executed at h
    split at h
    · rcases List.mem_cons.1 h with rfl | h
      · exact List.mem_cons_self
      · exact List.mem_cons_of_mem _ (ih _ h)
    · exact List.mem_cons_of_mem _ (ih _ h)

/-- The acts made at an output frame start, in their order. -/
def actsMade (order : List FrameAct) : List FrameAct := executed [] (order ++ defaultOrder)

/-- An act is made once: what comes before it and after it does not hold it. -/
theorem actsMade_split (order : List FrameAct) (a : FrameAct) (h : a ∈ actsMade order) :
    ∃ A B, actsMade order = A ++ a :: B ∧ a ∉ A ∧ a ∉ B := by
  obtain ⟨A, B, he⟩ := List.append_of_mem h
  refine ⟨A, B, he, fun hA => ?_, fun hB => ?_⟩
  · exact not_mem_of_mayAct _ a (mayAct_of_executed _ _ _ _ _ he) (by simp [hA])
  · obtain ⟨C, D, rfl⟩ := List.append_of_mem hB
    have := mayAct_of_executed [] _ (A ++ a :: C) D a (by simpa [actsMade] using he)
    exact not_mem_of_mayAct _ a this (by simp)

/-- At most one line is drawn (log 5). -/
theorem actsMade_line (order A B : List FrameAct) (p : Option (List Pixel)) (h : actsMade order = A ++ .line p :: B) :
    (∀ q, .line q ∉ A) ∧ ∀ q, .line q ∉ B := by
  refine ⟨fun q hq => ?_, fun q hq => ?_⟩
  · have hm := mayAct_of_executed [] _ A B _ h
    simp only [mayAct, Bool.not_eq_true', List.any_eq_false] at hm
    exact hm (.line q) (by simp [hq]) rfl
  · obtain ⟨C, D, rfl⟩ := List.append_of_mem hq
    have hm := mayAct_of_executed [] _ (A ++ .line p :: C) D (.line q) (by simpa [actsMade] using h)
    simp only [mayAct, Bool.not_eq_true', List.any_eq_false] at hm
    exact hm (.line p) (by simp) rfl

theorem line_mem_order (order : List FrameAct) (p : Option (List Pixel)) (h : .line p ∈ actsMade order) :
    .line p ∈ order := by
  rcases List.mem_append.1 (mem_executed _ _ _ h) with h | h
  · exact h
  · simp [defaultOrder] at h

/-- An act named in a list is made then, where it may be once it has not been. -/
theorem mem_executed_or_done (done as : List FrameAct) (a : FrameAct) (h : a ∈ as)
    (ha : ∀ d, a ∉ d → mayAct d a = true) : a ∈ executed done as ∨ a ∈ done := by
  induction as generalizing done with
  | nil => cases h
  | cons b as ih =>
    unfold executed
    rcases List.mem_cons.1 h with rfl | h
    · by_cases hd : a ∈ done
      · exact .inr hd
      · rw [if_pos (ha done hd)]; exact .inl List.mem_cons_self
    · split
      · rcases ih (b :: done) h with h | h
        · exact .inl (List.mem_cons_of_mem _ h)
        · rcases List.mem_cons.1 h with rfl | h
          · exact .inl List.mem_cons_self
          · exact .inr h
      · exact ih done h

/-- Every block's act is made, named or not. -/
theorem mem_actsMade (order : List FrameAct) (a : FrameAct) (h : a ∈ defaultOrder)
    (ha : ∀ d, a ∉ d → mayAct d a = true) : a ∈ actsMade order :=
  (mem_executed_or_done [] _ a (List.mem_append_right order h) ha).resolve_right (List.not_mem_nil)

theorem lane_mem_actsMade (order : List FrameAct) (m : Fin 4) : .lane m ∈ actsMade order :=
  mem_actsMade order _ (lane_mem_defaultOrder m) (by simp [mayAct])

theorem quote_mem_actsMade (order : List FrameAct) : .quote ∈ actsMade order :=
  mem_actsMade order _ (by decide) (by simp [mayAct])

theorem guard_mem_actsMade (order : List FrameAct) : .guard ∈ actsMade order :=
  mem_actsMade order _ (by decide) (by simp [mayAct])

theorem keyer_mem_actsMade (order : List FrameAct) : .keyer ∈ actsMade order :=
  mem_actsMade order _ (by decide) (by simp [mayAct])

theorem report_mem_actsMade (order : List FrameAct) : .report ∈ actsMade order :=
  mem_actsMade order _ (by decide) (by simp [mayAct])

theorem defaultOrder_snapshot (m : Fin 4) : ∃ X Y, defaultOrder = X ++ .lane m :: .snapshot m :: Y := by
  match m with
  | 0 => exact ⟨[], _, rfl⟩
  | 1 => exact ⟨[.lane 0, .snapshot 0], _, rfl⟩
  | 2 => exact ⟨[.lane 0, .snapshot 0, .lane 1, .snapshot 1], _, rfl⟩
  | 3 => exact ⟨[.lane 0, .snapshot 0, .lane 1, .snapshot 1, .lane 2, .snapshot 2], _, rfl⟩

/-- The default order names a lane's stages and its snapshot together, so that the snapshot is made by then. -/
theorem snapshot_mem_actsMade (order : List FrameAct) (m : Fin 4) : .snapshot m ∈ actsMade order := by
  obtain ⟨X, Y, hd⟩ := defaultOrder_snapshot m
  have happ : order ++ defaultOrder = ((order ++ X) ++ [.lane m]) ++ .snapshot m :: Y := by simp [hd]
  have hlane : .lane m ∈ executed [] (order ++ X ++ [.lane m]) :=
    (mem_executed_or_done [] _ _ (by simp) (by simp [mayAct])).resolve_right List.not_mem_nil
  unfold actsMade
  rw [happ, executed_append]
  generalize executed [] (order ++ X ++ [.lane m]) = done at hlane
  by_cases hs : .snapshot m ∈ done
  · exact List.mem_append_left _ hs
  · refine List.mem_append_right _ ?_
    unfold executed
    rw [if_pos (by simp [mayAct, hs, hlane])]
    exact List.mem_cons_self

/-- A lane's snapshot comes after its stages (spec 07 R114). -/
theorem actsMade_snapshot (order A B : List FrameAct) (m : Fin 4) (h : actsMade order = A ++ .snapshot m :: B) :
    .lane m ∈ A := by
  have hm := mayAct_of_executed [] _ A B _ h
  simp only [mayAct, Bool.and_eq_true, List.contains_eq_mem, List.append_nil, List.mem_reverse, decide_eq_true_eq] at hm
  exact hm.2

/-! ## What an act leaves as it was -/

/-- What acts leave, their sequence leaves. -/
theorem foldl_actStep_keeps {β : Type} (f : FrameRun → β) (changed : Bool) (as : List FrameAct)
    (h : ∀ a ∈ as, ∀ r, f (actStep changed r a) = f r) (r : FrameRun) : f (as.foldl (actStep changed) r) = f r := by
  induction as generalizing r with
  | nil => rfl
  | cons a as ih =>
    exact (ih (fun b hb => h b (List.mem_cons_of_mem _ hb)) _).trans (h a List.mem_cons_self r)

theorem guardEvaluate_touches (s : State) : ∃ g n k, guardEvaluate s = touchGuard g n k s := by
  rcases guardEvaluate_cases s with h | ⟨b, h⟩
  · exact ⟨s.guard, s.glyphs.missing, s.keyer, h⟩
  · obtain ⟨g, n, k, h'⟩ := recompute_touches (markCause .feedLoss b s)
    exact ⟨g, n, k, h.trans h'⟩

/-- No act moves anything but the guard unit, the missing-glyph counter, the keyer, the quote unit, the lanes and the
renderer's frame set and last line (spec 01 R9). -/
theorem makeAct_frame (changed : Bool) (a : FrameAct) (r : FrameRun) : ∃ g n k q ls fs ll,
    (makeAct changed a r).state = { touchGuard g n k r.state with
      quote := q, lanes := ls, renderer := { r.state.renderer with frameSet := fs, lastLine := ll } } := by
  cases a with
  | guard =>
    obtain ⟨g, n, k, h⟩ := guardEvaluate_touches r.state
    exact ⟨g, n, k, _, _, _, _, h⟩
  | line programme =>
    rcases overtakeLine_cases r.ending programme r.state with h | ⟨fr, _, _, h⟩
    · exact ⟨r.state.guard, r.state.glyphs.missing, r.state.keyer, _, _, _, _, h⟩
    · obtain ⟨ls, q, h', _⟩ := mixLine_frame r.ending.palette fr r.ending.renderer.nextLine programme r.state
      exact ⟨r.state.guard, r.state.glyphs.missing, r.state.keyer, _, ls, q, _, h.trans h'⟩
  | lane m => exact ⟨r.state.guard, _, r.state.keyer, _, _, _, _, rfl⟩
  | snapshot m => exact ⟨r.state.guard, r.state.glyphs.missing, r.state.keyer, _, _, _, _, rfl⟩
  | quote => exact ⟨r.state.guard, r.state.glyphs.missing, r.state.keyer, _, _, _, _, rfl⟩
  | keyer => exact ⟨r.state.guard, r.state.glyphs.missing, fadeStep r.state.keyer, _, _, _, _, rfl⟩
  | report => exact ⟨r.state.guard, r.state.glyphs.missing, r.state.keyer, _, _, _, _, rfl⟩

/-- The quote unit is moved by its own act alone. -/
theorem makeAct_quote (changed : Bool) (a : FrameAct) (r : FrameRun) (h : a ≠ .quote) :
    (makeAct changed a r).state.quote = r.state.quote := by
  cases a with
  | quote => exact absurd rfl h
  | guard => obtain ⟨g, n, k, h⟩ := guardEvaluate_touches r.state; simp only [makeAct, h]; rfl
  | line programme => obtain ⟨ls, q, h⟩ := overtakeLine_frame r.ending programme r.state; simp [makeAct, h]
  | _ => rfl

/-- The guard unit is moved by its own act alone. -/
theorem makeAct_guard (changed : Bool) (a : FrameAct) (r : FrameRun) (h : a ≠ .guard) :
    (makeAct changed a r).state.guard = r.state.guard := by
  cases a with
  | guard => exact absurd rfl h
  | line programme => obtain ⟨ls, q, h⟩ := overtakeLine_frame r.ending programme r.state; simp [makeAct, h]
  | _ => rfl

/-- The key is moved by its own act and the guard unit's. -/
theorem makeAct_keyer (changed : Bool) (a : FrameAct) (r : FrameRun) (h : a ≠ .guard) (hk : a ≠ .keyer) :
    (makeAct changed a r).state.keyer = r.state.keyer := by
  cases a with
  | guard => exact absurd rfl h
  | keyer => exact absurd rfl hk
  | line programme => obtain ⟨ls, q, h⟩ := overtakeLine_frame r.ending programme r.state; simp [makeAct, h]
  | _ => rfl

theorem makeAct_head (changed : Bool) (a : FrameAct) (r : FrameRun) (h : a ≠ .report) :
    (makeAct changed a r).head = r.head := by
  cases a with
  | report => exact absurd rfl h
  | _ => rfl

/-- What the acts of a list make of a run. -/
abbrev runActs (s : State) (as : List FrameAct) (r : FrameRun) : FrameRun :=
  as.foldl (actStep (formatChanged s.timing)) r

/-- The run before any act. -/
def runBegin (s : State) : FrameRun :=
  { ending := s, state := beginFrame s, snaps := .all .blank, head := readHead (beginFrame s), done := [] }

/-- What the first acts of an output frame start have made. -/
abbrev runOf (s : State) (as : List FrameAct) : FrameRun := runActs s as (runBegin s)

theorem frameStart_run (order : List FrameAct) (s : State) :
    frameStart order s = endFrame (runOf s (actsMade order)) :=
  (frameStart_eq order s).trans (congrArg endFrame (makeActs_eq_foldl _ _ (runBegin s)))

theorem runOf_append (s : State) (A B : List FrameAct) (a : FrameAct) :
    runOf s (A ++ a :: B) = runActs s B (actStep (formatChanged s.timing) (runOf s A) a) := by
  simp [List.foldl_append]

/-- What the acts leave of the part at any moment of an output frame start. -/
theorem runActs_frame (s : State) (as : List FrameAct) (r : FrameRun) : ∃ g n k q ls fs ll,
    (runActs s as r).state = { touchGuard g n k r.state with
      quote := q, lanes := ls, renderer := { r.state.renderer with frameSet := fs, lastLine := ll } } := by
  induction as generalizing r with
  | nil => exact ⟨r.state.guard, r.state.glyphs.missing, r.state.keyer, _, _, _, _, rfl⟩
  | cons a as ih =>
    obtain ⟨g, n, k, q, ls, fs, ll, h⟩ := ih (actStep (formatChanged s.timing) r a)
    obtain ⟨g', n', k', q', ls', fs', ll', h'⟩ := makeAct_frame (formatChanged s.timing) a r
    refine ⟨g, n, k, q, ls, fs, ll, h.trans ?_⟩
    simp only [actStep, h']
    rfl

theorem runActs_ending (s : State) (as : List FrameAct) (r : FrameRun) : (runActs s as r).ending = r.ending :=
  foldl_actStep_keeps FrameRun.ending _ as (fun a _ r => by cases a <;> rfl) r

theorem runActs_timing (s : State) (as : List FrameAct) (r : FrameRun) :
    (runActs s as r).state.timing = r.state.timing := by
  obtain ⟨g, n, k, q, ls, fs, ll, h⟩ := runActs_frame s as r
  rw [h]; rfl

theorem runActs_quote (s : State) (as : List FrameAct) (r : FrameRun) (h : .quote ∉ as) :
    (runActs s as r).state.quote = r.state.quote :=
  foldl_actStep_keeps (fun r => r.state.quote) _ as
    (fun a ha r => makeAct_quote _ a r (fun he => h (he ▸ ha))) r

theorem runActs_guard (s : State) (as : List FrameAct) (r : FrameRun) (h : .guard ∉ as) :
    (runActs s as r).state.guard = r.state.guard :=
  foldl_actStep_keeps (fun r => r.state.guard) _ as
    (fun a ha r => makeAct_guard _ a r (fun he => h (he ▸ ha))) r

theorem runActs_keyer (s : State) (as : List FrameAct) (r : FrameRun) (h : .guard ∉ as) (hk : .keyer ∉ as) :
    (runActs s as r).state.keyer = r.state.keyer :=
  foldl_actStep_keeps (fun r => r.state.keyer) _ as
    (fun a ha r => makeAct_keyer _ a r (fun he => h (he ▸ ha)) (fun he => hk (he ▸ ha))) r

theorem runActs_head (s : State) (as : List FrameAct) (r : FrameRun) (h : .report ∉ as) :
    (runActs s as r).head = r.head :=
  foldl_actStep_keeps FrameRun.head _ as (fun a ha r => makeAct_head _ a r (fun he => h (he ▸ ha))) r

/-! ## The quote unit at an output frame start -/

/-- The quote unit after its act, at whatever place of the order. -/
theorem runOf_quote_of_mem (s : State) (A : List FrameAct) (h : ∃ B C, A = B ++ .quote :: C ∧ .quote ∉ B ∧ .quote ∉ C) :
    (runOf s A).state.quote = quoteFrame (startFormat s.timing) (formatChanged s.timing) s.quote := by
  obtain ⟨B, C, rfl, hB, hC⟩ := h
  rw [runOf_append, runActs_quote s C _ hC]
  show quoteFrame (runOf s B).state.timing.format _ (runOf s B).state.quote = _
  rw [runActs_quote s B _ hB, runActs_timing]
  rfl

/-- An output frame start makes the stages of the quote unit once (spec 09 R146). -/
theorem frameStart_quote (order : List FrameAct) (s : State) :
    (frameStart order s).quote = quoteFrame (startFormat s.timing) (formatChanged s.timing) s.quote := by
  rw [frameStart_run]
  exact runOf_quote_of_mem s _ (actsMade_split order _ (quote_mem_actsMade order))

/-- At any moment the quote unit is as before its stages or as after them. -/
theorem runOf_quote (order A B : List FrameAct) (a : FrameAct) (s : State) (h : actsMade order = A ++ a :: B) :
    (runOf s A).state.quote = s.quote ∨ (runOf s A).state.quote = (frameStart order s).quote := by
  by_cases hq : .quote ∈ A
  · obtain ⟨C, D, rfl⟩ := List.append_of_mem hq
    obtain ⟨C', D', h', hC, hD⟩ := actsMade_split order _ (quote_mem_actsMade order)
    have hno : .quote ∉ C ∧ .quote ∉ D := by
      refine ⟨fun hm => ?_, fun hm => ?_⟩
      · exact not_mem_of_mayAct _ _ (mayAct_of_executed [] _ C (D ++ a :: B) .quote (by
          simpa [actsMade] using h)) (by simp [hm])
      · obtain ⟨E, F, rfl⟩ := List.append_of_mem hm
        exact not_mem_of_mayAct _ _ (mayAct_of_executed [] _ (C ++ .quote :: E) (F ++ a :: B) .quote (by
          simpa [actsMade] using h)) (by simp)
    exact .inr ((runOf_quote_of_mem s _ ⟨C, D, rfl, hno.1, hno.2⟩).trans (frameStart_quote order s).symm)
  · exact .inl (runActs_quote s A _ hq)

theorem frameStart_timing (order : List FrameAct) (s : State) : (frameStart order s).timing = timingFrame s.timing := by
  rw [frameStart_run]
  exact runActs_timing s _ (runBegin s)

theorem exec_outputFrameStart (order : List FrameAct) (s : State) (h : s.pins.resetLow = false) :
    exec (.outputFrameStart order) s = .next (frameStart order s) := whileRunning_high _ s h

/-- The quote unit before it ages: the limits computed again where the format changes (spec 09 R146 stage 1). -/
theorem quoteFrame_eq (f : Format) (changed : Bool) (q : QuoteUnit) : ∃ q1 : QuoteUnit,
    q1 = (if changed then recomputeLimits f q else q) ∧ quoteFrame f changed q =
      { q1 with symbols := mapSymbols (ageSymbol q1.staleFrames) q1.symbols, feedAge := min (q1.feedAge + 1) 65535 } :=
  ⟨_, rfl, rfl⟩

/-- Each symbol ages by a frame (spec 09 R146): staleness that stage 1 evaluates is evaluated anew. -/
theorem symbolAt_quoteFrame (f : Format) (changed : Bool) (q : QuoteUnit) (n : Nat) :
    symbolAt (quoteFrame f changed q) n = (symbolAt q n).map (ageSymbol (quoteFrame f changed q).staleFrames) := by
  cases changed with
  | false => exact get_mapSymbols _ _ _
  | true =>
    refine (get_mapSymbols _ _ _).trans ?_
    show (Table.get none (mapSymbols _ q.symbols) n).map _ = _
    rw [get_mapSymbols, Option.map_map]
    rfl

/-- Settles O9: the quote unit's act is made once, and nothing else moves the unit. -/
theorem frameStartAgesTheQuoteUnit : Obligations.FrameStartAgesTheQuoteUnit := by
  intro order s hrun
  refine ⟨frameStart order s, exec_outputFrameStart order s hrun, ?_⟩
  rw [frameStart_quote]
  have hsymbols := symbolAt_quoteFrame (startFormat s.timing) (formatChanged s.timing) s.quote
  by_cases hf : startFormat s.timing = s.timing.format
  · have hc : formatChanged s.timing = false := by simp [formatChanged, hf]
    rw [hc] at hsymbols ⊢
    exact ⟨rfl, rfl, rfl, rfl, rfl, rfl, fun _ => ⟨rfl, rfl⟩, fun f h hn => absurd (h.symm.trans hf) hn, hsymbols⟩
  · have hc : formatChanged s.timing = true := by simpa [formatChanged] using hf
    rw [hc] at hsymbols ⊢
    exact ⟨rfl, rfl, rfl, rfl, rfl, rfl, fun h => absurd h hf, fun f h _ => h ▸ ⟨rfl, rfl⟩, hsymbols⟩

end Sys2Proof.Machine
end

section
/-! PROOFS. The quote unit: every step keeps the limits in frames with the output format (spec 09 R144), every stale flag with
its symbol's age (spec 09 R147), and the derived fields of every symbol (spec 09 R139). -/

namespace Sys2Proof.Machine

open Sys2Proof

/-! ## Symbols -/

/-- What `symbolSound` asks of a record. -/
theorem symbolSound_iff (x : Symbol) : symbolSound x = true ↔
    (x.change = changeOf x.last x.reference ∧ x.percent = percentOf x.change x.reference) ∧
      (x.reference ≤ 99999999 ∧ x.last.getD 0 ≤ 99999999) ∧ x.flash ≤ 120 ∧ x.age ≤ 65535 := by
  simp [symbolSound, and_assoc]

/-- A record is sound, and stale by its age against a limit in frames. -/
def SymbolSoundAt (limit : Nat) (x : Symbol) : Prop := symbolSound x = true ∧ x.stale = staleAt limit x.age

theorem clampPrice_le (p : Quad32) : clampPrice p ≤ 99999999 := (clampTo_bounds 0 99999999 _ (by decide)).2

/-- No age of 0 is stale (spec 09 R147). -/
theorem staleAt_zero (limit : Nat) : staleAt limit 0 = false := by simp [staleAt]

/-- Recomputing the derived fields, and passing the class through the filter, leaves a sound record where the prices, the
flash and the age are in range (spec 09 R139 to R141). -/
theorem recomputeSymbol_sound (large : Nat) (x : Symbol)
    (h : (x.reference ≤ 99999999 ∧ x.last.getD 0 ≤ 99999999) ∧ x.flash ≤ 120 ∧ x.age ≤ 65535) :
    symbolSound (recomputeSymbol large x) = true := (symbolSound_iff _).2 ⟨⟨rfl, rfl⟩, h⟩

theorem filterClass_sound (n : Nat) (x : Symbol) (h : symbolSound x = true) : symbolSound (filterClass n x) = true := by
  obtain ⟨d, c, a, hf⟩ := filterClass_frame n x
  rw [hf]; exact h

theorem filterClass_age (n : Nat) (x : Symbol) : (filterClass n x).age = x.age ∧ (filterClass n x).stale = x.stale := by
  obtain ⟨d, c, a, hf⟩ := filterClass_frame n x
  rw [hf]; exact ⟨rfl, rfl⟩

theorem symbolOf_sound (limit : Nat) (h : Header) (f : SymbolFields) : SymbolSoundAt limit (symbolOf h f) := by
  refine ⟨(symbolSound_iff _).2 ⟨⟨rfl, ?_⟩, ⟨clampPrice_le _, Nat.zero_le _⟩, Nat.zero_le _, Nat.zero_le _⟩,
    (staleAt_zero limit).symm⟩
  show (if clampPrice f.reference = 0 then none else some 0) = percentOf 0 (clampPrice f.reference)
  unfold percentOf
  split <;> simp

/-- Aging a record by a frame (spec 09 R146). -/
theorem ageSymbol_sound (limit : Nat) (x : Symbol) (h : symbolSound x = true) : SymbolSoundAt limit (ageSymbol limit x) := by
  rw [symbolSound_iff] at h
  obtain ⟨hd, hp, hf, _⟩ := h
  refine ⟨(symbolSound_iff _).2 ⟨hd, hp, ?_, Nat.min_le_right _ _⟩, rfl⟩
  show x.flash - 1 ≤ 120
  omega

theorem resetSymbol_sound (limit : Nat) (x : Symbol) (h : symbolSound x = true) : SymbolSoundAt limit (resetSymbol x) := by
  rw [symbolSound_iff] at h
  obtain ⟨hd, hp, _⟩ := h
  exact ⟨(symbolSound_iff _).2 ⟨hd, hp, Nat.zero_le _, Nat.zero_le _⟩, (staleAt_zero limit).symm⟩

/-! ## The quote unit -/

/-- The limits in frames are those of a format, every record is sound and stale by its age, and no movement entry flashes for
more than 120 frames. -/
structure QuoteSound (f : Format) (q : QuoteUnit) : Prop where
  stale : q.staleFrames = framesOf f q.staleLimit
  feed : q.feedFrames = framesOf f q.feedTimeout
  symbols : ∀ e ∈ q.symbols, ∀ x, e.2 = some x → SymbolSoundAt q.staleFrames x
  movement : ∀ e ∈ q.movement, e.2.flash ≤ 120

theorem quoteSound_iff (s : State) : QuoteSound s.timing.format s.quote ↔
    LimitsMatchFormat s ∧ StaleMatchesAge s ∧ SymbolsSound s :=
  ⟨fun ⟨hs, hf, hx, hm⟩ => ⟨⟨hs, hf⟩, fun e he x h => (hx e he x h).2, fun e he x h => (hx e he x h).1, hm⟩,
    fun ⟨⟨hs, hf⟩, ha, hx, hm⟩ => ⟨hs, hf, fun e he x h => ⟨hx e he x h, ha e he x h⟩, hm⟩⟩

theorem framesOf_zero (f : Format) : framesOf f 0 = 0 := by cases f <;> decide

theorem quoteSound_initial (f : Format) : QuoteSound f .initial :=
  ⟨(framesOf_zero f).symm, (framesOf_zero f).symm, fun _ h => absurd h List.not_mem_nil, fun _ h => absurd h List.not_mem_nil⟩

/-- The symbols after a change made to each. -/
theorem mapSymbols_sound (P Q : Symbol → Prop) (g : Symbol → Symbol) (t : Table (Option Symbol))
    (hg : ∀ x, P x → Q (g x)) (h : ∀ e ∈ t, ∀ x, e.2 = some x → P x) :
    ∀ e ∈ mapSymbols g t, ∀ x, e.2 = some x → Q x := by
  intro e he x hx
  obtain ⟨d, hd, rfl⟩ := List.mem_map.1 he
  obtain ⟨y, hy, rfl⟩ := Option.map_eq_some_iff.1 hx
  exact hg y (h d hd y hy)

theorem QuoteSound.at {f : Format} {q : QuoteUnit} (h : QuoteSound f q) (n : Nat) (x : Symbol)
    (hx : symbolAt q n = some x) : SymbolSoundAt q.staleFrames x := by
  unfold symbolAt Table.get at hx
  cases hf : Table.find q.symbols n with
  | none => simp [hf] at hx
  | some y => exact h.symbols _ (find_mem _ _ _ hf) x (by simpa [hf] using hx)

theorem QuoteSound.movementAt_flash {f : Format} {q : QuoteUnit} (h : QuoteSound f q) (i : Nat) :
    (movementAt q i).flash ≤ 120 := by
  unfold movementAt Table.get
  cases hf : Table.find q.movement i with
  | none => exact Nat.zero_le _
  | some e => exact h.movement _ (find_mem _ _ _ hf)

theorem QuoteSound.setSymbol {f : Format} {q : QuoteUnit} (h : QuoteSound f q) (n : Nat) (y : Option Symbol)
    (hy : ∀ x, y = some x → SymbolSoundAt q.staleFrames x) : QuoteSound f (setSymbol q n y) := by
  refine ⟨h.stale, h.feed, fun e he x hx => ?_, h.movement⟩
  rcases mem_set _ _ _ _ e he with rfl | he
  · exact hy x hx
  · exact h.symbols e he x hx

/-- The staleness of every record evaluated against new limits (spec 09 R147). -/
theorem evaluateStale_sound (f : Format) (q : QuoteUnit) (hs : q.staleFrames = framesOf f q.staleLimit)
    (hf : q.feedFrames = framesOf f q.feedTimeout) (hx : ∀ e ∈ q.symbols, ∀ x, e.2 = some x → symbolSound x = true)
    (hm : ∀ e ∈ q.movement, e.2.flash ≤ 120) : QuoteSound f (evaluateStale q) :=
  ⟨hs, hf, mapSymbols_sound (fun x => symbolSound x = true) _ _ _ (fun _ h => ⟨h, rfl⟩) hx, hm⟩

theorem QuoteSound.symbolSound {f : Format} {q : QuoteUnit} (h : QuoteSound f q) :
    ∀ e ∈ q.symbols, ∀ x, e.2 = some x → symbolSound x = true := fun e he x hx => (h.symbols e he x hx).1

theorem QuoteSound.deviceQuote {f : Format} {q : QuoteUnit} (h : QuoteSound f q) (d : DeviceFields) :
    QuoteSound f (deviceQuote f d q) := by
  have hc : QuoteSound f (deviceClasses d q) := ⟨h.stale, h.feed, h.symbols, h.movement⟩
  have hs : QuoteSound f (deviceStale f d (deviceClasses d q)) := by
    unfold deviceStale
    split
    · exact evaluateStale_sound f _ rfl hc.feed hc.symbolSound hc.movement
    · exact hc
  unfold Machine.deviceQuote deviceFeed
  split
  · exact evaluateStale_sound f _ hs.stale rfl hs.symbolSound hs.movement
  · exact hs

/-- The stages of the quote unit leave the limits of the format that begins (spec 09 R144, R146). -/
theorem QuoteSound.quoteFrame {t : OutputTiming} {q : QuoteUnit} (h : QuoteSound t.format q) :
    QuoteSound (startFormat t) (quoteFrame (startFormat t) (formatChanged t) q) := by
  have hq1 : QuoteSound (startFormat t) (if formatChanged t then recomputeLimits (startFormat t) q else q) := by
    cases hc : formatChanged t with
    | true => exact evaluateStale_sound _ _ rfl rfl h.symbolSound h.movement
    | false =>
      have hf : startFormat t = t.format := by simpa [formatChanged] using hc
      rw [hf]; exact h
  obtain ⟨q1, he, hframe⟩ := quoteFrame_eq (startFormat t) (formatChanged t) q
  rw [← he] at hq1
  rw [hframe]
  exact ⟨hq1.stale, hq1.feed,
    mapSymbols_sound (fun x => Machine.symbolSound x = true) _ _ _ (fun x hx => ageSymbol_sound _ x hx) hq1.symbolSound,
    hq1.movement⟩

/-- A quote applies the price, passes the class through the filter, starts a flash or leaves it, and renews the age (spec 09
R135). -/
theorem quoteSymbol_frame (q : QuoteUnit) (price : Nat) (x : Symbol) : ∃ fl,
    let x1 := filterClass q.classFilter (recomputeSymbol q.largeThreshold { x with last := some price })
    quoteSymbol q price x = { x1 with flash := fl, age := 0, stale := false } ∧
      (fl = x1.flash ∨ fl = (symbolMovement q x1).flash) := by
  unfold quoteSymbol
  dsimp only
  generalize filterClass q.classFilter _ = x1
  cases x.last with
  | none => exact ⟨_, rfl, .inl rfl⟩
  | some l =>
    cases hl : l != price with
    | true => exact ⟨_, by simp only [hl, if_true], .inr rfl⟩
    | false => exact ⟨_, by simp only [hl, Bool.false_eq_true, if_false], .inl rfl⟩

/-- The record a quote leaves (spec 09 R135). -/
theorem QuoteSound.quoteSymbol {f : Format} {q : QuoteUnit} (h : QuoteSound f q) (n : Nat) (p : Quad32) (x : Symbol)
    (hx : symbolAt q n = some x) : SymbolSoundAt q.staleFrames (quoteSymbol q (clampPrice p) x) := by
  obtain ⟨_, ⟨hr, _⟩, hflash, hage⟩ := (symbolSound_iff x).1 (h.at n x hx).1
  obtain ⟨fl, he, hfl⟩ := quoteSymbol_frame q (clampPrice p) x
  have h1 := filterClass_sound q.classFilter _ (recomputeSymbol_sound q.largeThreshold
    { x with last := some (clampPrice p) } ⟨⟨hr, clampPrice_le p⟩, hflash, hage⟩)
  obtain ⟨hd, hp, hf, _⟩ := (symbolSound_iff _).1 h1
  have hfl120 : fl ≤ 120 := by
    rcases hfl with rfl | rfl
    · exact hf
    · exact h.movementAt_flash _
  rw [he]
  exact ⟨(symbolSound_iff _).2 ⟨hd, hp, hfl120, Nat.zero_le _⟩, (staleAt_zero _).symm⟩

/-- The record that another command of the quote unit leaves (spec 09 R133, R137, R138). -/
theorem QuoteSound.symbolMade {f : Format} {q : QuoteUnit} (h : QuoteSound f q) (n : Nat) (y : Option Symbol)
    (hy : SymbolMade q n y) : ∀ x, y = some x → SymbolSoundAt q.staleFrames x := by
  rintro x rfl
  cases hy with
  | defined hd f => exact symbolOf_sound _ hd f
  | referenced x p hx =>
    obtain ⟨hsound, hstale⟩ := h.at n x hx
    obtain ⟨_, ⟨_, hl⟩, hrest⟩ := (symbolSound_iff x).1 hsound
    refine ⟨filterClass_sound _ _ (recomputeSymbol_sound _ _ ⟨⟨clampPrice_le p, hl⟩, hrest⟩), ?_⟩
    obtain ⟨ha, hs⟩ := filterClass_age q.classFilter
      (recomputeSymbol q.largeThreshold { x with reference := clampPrice p })
    rw [ha, hs]; exact hstale
  | halted x on hx =>
    obtain ⟨hsound, hstale⟩ := h.at n x hx
    exact ⟨recomputeSymbol_sound q.largeThreshold { x with halted := on } ((symbolSound_iff x).1 hsound).2, hstale⟩

/-! ## The steps -/

/-- The quote unit is sound at the output format. -/
def QuoteSoundAtFormat (s : State) : Prop := QuoteSound s.timing.format s.quote

theorem stored_quoteSound (s t : State) (h : StoreEffect s t) (hs : QuoteSoundAtFormat s) : QuoteSoundAtFormat t := by
  cases h with
  | symbol n x hx => exact QuoteSound.setSymbol hs n x (QuoteSound.symbolMade hs n x hx)
  | quote n p x hx =>
    have hset := QuoteSound.setSymbol hs n.toNat _ fun y hy => Option.some.inj hy ▸ QuoteSound.quoteSymbol hs n.toNat p x hx
    exact ⟨hset.stale, hset.feed, hset.symbols, hset.movement⟩
  | movement i e he =>
    refine ⟨hs.stale, hs.feed, hs.symbols, fun d hd => ?_⟩
    rcases mem_set _ _ _ _ d hd with rfl | hd
    · exact he
    · exact hs.movement d hd
  | _ => exact hs

theorem quoteSound_partsKeep : PartsKeep QuoteSoundAtFormat where
  guarded _ _ _ _ hs := hs
  queued _ _ _ hs := hs
  pending _ _ hs := hs
  pins _ _ hs := hs
  powerOn _ _ := quoteSound_initial _
  runReset _ hs := ⟨hs.stale, hs.feed, mapSymbols_sound _ _ _ _ (fun x hx => resetSymbol_sound _ x hx) hs.symbolSound,
    hs.movement⟩
  allReset _ _ := quoteSound_initial _
  settings f _ hs := QuoteSound.deviceQuote hs f
  begun order s hs := by
    unfold QuoteSoundAtFormat
    rw [frameStart_quote, frameStart_timing]
    exact QuoteSound.quoteFrame hs
  arrived _ _ hs := hs
  expired _ _ := ‹_›
  followed f blanking before s hs := by
    obtain ⟨starts, h, _⟩ := followFrame_frame f blanking before s
    rw [h]; exact hs
  drawn programme s hs := by
    obtain ⟨ls, r, h⟩ := drawLine_frame programme s
    rw [h]; exact hs
  stored := stored_quoteSound
  completed _ _ hs := hs

/-- Settles O52: the output format moves at an output frame start alone, with the limits; a record is written sound, and ages
with its staleness evaluated. -/
theorem limitsAndStaleFlagsStaySound : Obligations.LimitsAndStaleFlagsStaySound := fun s t hl ha hx ht =>
  (quoteSound_iff t).1 (quoteSound_partsKeep.stepKeeps.step s t ((quoteSound_iff s).2 ⟨hl, ha, hx⟩) ht)

end Sys2Proof.Machine
end

section
/-! PROOFS. The lanes between steps (spec 07, spec 08): what a sound lane is, said field by field, and that each command, each
stage of an output frame start and the drawing of a line keep it. -/

namespace Sys2Proof.Machine

open Sys2Proof

/-! ## A sound lane -/

/-- A lane's counts, states and cursors are sound and its on-screen list is in order (spec 06 R82, spec 07 R92, R97, R105,
R109, spec 08 R120). -/
structure LaneOk (l : Lane) : Prop where
  base : l.base.length ≤ 128
  screen : l.screen.length ≤ 16
  depth : l.interjections.length ≤ 3
  speeds : l.speed ≤ 960 ∧ l.target ≤ 960 ∧ l.step ≤ 960
  faults : l.faults ≤ 65535
  running : l.state = .running ∨ l.interjections = [] ∧ l.slot = none ∧ l.starved = false
  starved : l.starved = true → l.slot = none
  idle : l.state = .idle → l.screen = []
  cursor : l.cursor = 0 ∨ l.cursor < l.base.length
  cursors : ∀ i ∈ l.interjections, i.cursor < i.items.length
  position : ∀ e k, l.slot = some e → e.position = some k → k < (activeList l).length
  order : ListInOrder l

theorem laneSound_iff (l : Lane) : laneSound l = true ↔ l.base.length ≤ 128 ∧ l.screen.length ≤ 16 ∧
    l.interjections.length ≤ 3 ∧ (l.speed ≤ 960 ∧ l.target ≤ 960 ∧ l.step ≤ 960) ∧ l.faults ≤ 65535 ∧
    (l.state = .running ∨ l.interjections = [] ∧ l.slot = none ∧ l.starved = false) ∧
    (l.starved = true → l.slot = none) ∧ (l.state = .idle → l.screen = []) := by
  simp [laneSound, and_assoc]
  grind

theorem cursorsSound_iff (l : Lane) : cursorsSound l = true ↔ (l.cursor = 0 ∨ l.cursor < l.base.length) ∧
    (∀ i ∈ l.interjections, i.cursor < i.items.length) ∧
    ∀ e k, l.slot = some e → e.position = some k → k < (activeList l).length := by
  unfold cursorsSound
  cases hs : l.slot with
  | none => simp
  | some e =>
    cases hp : e.position with
    | none => simp [hp]; grind
    | some k => simp [hp, and_assoc]; grind

theorem laneOk_iff (l : Lane) : LaneOk l ↔ (laneSound l && cursorsSound l) = true ∧ ListInOrder l := by
  rw [Bool.and_eq_true, laneSound_iff, cursorsSound_iff]
  constructor
  · intro h
    exact ⟨⟨⟨h.base, h.screen, h.depth, h.speeds, h.faults, h.running, h.starved, h.idle⟩, h.cursor, h.cursors,
      h.position⟩, h.order⟩
  · rintro ⟨⟨⟨h1, h2, h3, h4, h5, h6, h7, h8⟩, h9, h10, h11⟩, h12⟩
    exact ⟨h1, h2, h3, h4, h5, h6, h7, h8, h9, h10, h11, h12⟩

theorem laneOk_initial (g : Geometry) (n : Nat) : LaneOk { Lane.initial with geometry := g, nextNumber := n } :=
  ⟨Nat.zero_le _, Nat.zero_le _, Nat.zero_le _, ⟨Nat.zero_le _, Nat.zero_le _, Nat.zero_le _⟩, Nat.zero_le _,
    .inr ⟨rfl, rfl, rfl⟩, nofun, fun _ => rfl, .inl rfl, nofun, nofun, .nil⟩

/-! ## Staging -/

/-- What a refill writes: the slot, or the end of the list, over a RUNNING lane with an empty slot (spec 07 R97, R102). -/
theorem LaneOk.drained {l : Lane} (h : LaneOk l) : LaneOk (enterDraining l) :=
  ⟨h.base, h.screen, Nat.zero_le _, h.speeds, h.faults, .inr ⟨rfl, rfl, rfl⟩, nofun, nofun, h.cursor, nofun, nofun, h.order⟩

/-- The faults of a walk recorded. -/
theorem LaneOk.recordFaults {l : Lane} (h : LaneOk l) (fs : List (Nat × StagingFault)) : LaneOk (recordFaults l fs) := by
  obtain ⟨n, r, he, hn⟩ := recordFaults_frame l fs
  rw [he]
  exact ⟨h.base, h.screen, h.depth, h.speeds, hn h.faults, h.running, h.starved, h.idle, h.cursor, h.cursors, h.position,
    h.order⟩

/-- An entry staged in a RUNNING lane, its place in the active list, the cursor moved on. -/
theorem LaneOk.staged {l : Lane} (h : LaneOk l) (hs : l.state = .running) (e : Staged) (cursor : Nat) (passEnd : Bool)
    (hc : cursor = 0 ∨ cursor < l.base.length) (is : List Interjection) (hd : is.length ≤ 3)
    (hi : ∀ i ∈ is, i.cursor < i.items.length)
    (hp : ∀ k, e.position = some k → k < (activeList { l with interjections := is }).length) :
    LaneOk { l with slot := some e, starved := false, cursor := cursor, passEnd := passEnd, interjections := is } :=
  ⟨h.base, h.screen, hd, h.speeds, h.faults, .inl hs, nofun, h.idle, hc, hi,
    fun _ k he hk => hp k (Option.some.inj he ▸ hk), h.order⟩

/-- A lane with another cursor in its base list. -/
theorem LaneOk.atCursor {l : Lane} (h : LaneOk l) (n : Nat) (hc : n = 0 ∨ n < l.base.length) :
    LaneOk { l with cursor := n } :=
  ⟨h.base, h.screen, h.depth, h.speeds, h.faults, h.running, h.starved, h.idle, hc, h.cursors, h.position, h.order⟩

/-- A RUNNING lane with an empty slot, STARVED or not. -/
theorem LaneOk.withStarved {l : Lane} (h : LaneOk l) (hs : l.state = .running) (hslot : l.slot = none) (b : Bool) :
    LaneOk { l with starved := b } :=
  ⟨h.base, h.screen, h.depth, h.speeds, h.faults, .inl hs, fun _ => hslot, h.idle, h.cursor, h.cursors, h.position, h.order⟩

/-- A lane with an empty slot and fewer interjection contexts. -/
theorem LaneOk.withContexts {l : Lane} (h : LaneOk l) (hs : l.state = .running) (is : List Interjection)
    (hd : is.length ≤ 3) (hi : ∀ i ∈ is, i.cursor < i.items.length) : LaneOk { l with slot := none, interjections := is } :=
  ⟨h.base, h.screen, hd, h.speeds, h.faults, .inl hs, fun _ => rfl, h.idle, h.cursor, hi, nofun, h.order⟩

theorem recordFaults_fields (l : Lane) (fs : List (Nat × StagingFault)) : (recordFaults l fs).state = l.state ∧
    (recordFaults l fs).slot = l.slot ∧ (recordFaults l fs).base = l.base ∧
    (recordFaults l fs).interjections = l.interjections := by
  obtain ⟨n, r, h, -⟩ := recordFaults_frame l fs
  rw [h]
  exact ⟨rfl, rfl, rfl, rfl⟩

theorem refillBase_ok (s : State) (l : Lane) (h : LaneOk l) (hs : l.state = .running) (hslot : l.slot = none)
    (hi : l.interjections = []) : LaneOk (refillBase s l).1 := by
  have key : ∀ (fs : List (Nat × StagingFault)) (e : Staged) (n k : Nat) (b : Bool),
      e.position = some k → k < l.base.length → (n = 0 ∨ n < l.base.length) →
      LaneOk { recordFaults l fs with slot := some e, starved := false, cursor := n, passEnd := b } := by
    intro fs e n k b he hk hn
    obtain ⟨hst, -, hb, hij⟩ := recordFaults_fields l fs
    have hr := (h.recordFaults fs).staged (hst.trans hs) e n b (hb ▸ hn) [] (Nat.zero_le _) nofun
      (fun k' hk' => by rw [he] at hk'; cases hk'; show k < (recordFaults l fs).base.length; rwa [hb])
    rw [← hi, ← hij] at hr
    exact hr
  have faulty : ∀ fs, LaneOk { recordFaults l fs with cursor := 0 } ∧ LaneOk { recordFaults l fs with starved := true } ∧
      (recordFaults l fs).state = .running := by
    intro fs
    obtain ⟨hst, hsl, -, -⟩ := recordFaults_fields l fs
    exact ⟨(h.recordFaults fs).atCursor 0 (.inl rfl), (h.recordFaults fs).withStarved (hst.trans hs) (hsl.trans hslot) true,
      hst.trans hs⟩
  unfold refillBase
  split
  · split
    · have h0 := (h.withStarved hs hslot false).atCursor 0 (.inl rfl)
      rw [← hslot]
      exact h0
    · rename_i hb
      have hpos : 0 < l.base.length := List.length_pos_iff.2 (by simpa using hb)
      dsimp only
      split
      · exact (faulty _).2.1
      · exact key _ _ _ _ _ rfl (Nat.mod_lt _ hpos) (.inr (Nat.mod_lt _ hpos))
  · split
    · exact (h.atCursor 0 (.inl rfl)).drained
    · dsimp only
      split
      · obtain ⟨h0, -, hst⟩ := faulty (walk s l (l.base.drop l.cursor)).faults
        exact h0.drained
      · rename_i c hc
        obtain ⟨hlen, -⟩ := walk_hit s l _ c hc
        rw [List.length_drop] at hlen
        refine key _ _ _ _ _ rfl (by omega) ?_
        split
        · exact .inl rfl
        · rename_i hend
          simp only [decide_eq_true_eq] at hend
          omega

theorem refillContexts_ok (s : State) (is : List Interjection) (l : Lane) (h : LaneOk { l with interjections := is })
    (hs : l.state = .running) (hslot : l.slot = none) : LaneOk (refillContexts s l is).1 := by
  induction is generalizing l with
  | nil => exact refillBase_ok s _ h hs hslot rfl
  | cons i below ih =>
    obtain ⟨n, r, he, hn⟩ := recordFaults_frame l (walk s l (i.items.drop i.cursor)).faults
    have hbelow : LaneOk { l with interjections := below, faults := n, lastFault := r } := by
      have h' := h.withContexts hs below (by have := h.depth; simp at this; omega)
        (fun j hj => h.cursors j (List.mem_cons_of_mem _ hj))
      have h'' : LaneOk { l with interjections := below } := by rw [← hslot] at h'; exact h'
      exact ⟨h''.base, h''.screen, h''.depth, h''.speeds, hn h.faults, h''.running, h''.starved, h''.idle, h''.cursor,
        h''.cursors, h''.position, h''.order⟩
    simp only [refillContexts, he]
    split
    · exact ih _ hbelow hs hslot
    · rename_i c hc
      obtain ⟨hlen, -⟩ := walk_hit s l _ c hc
      rw [List.length_drop] at hlen
      split
      · exact hbelow.staged hs _ l.cursor l.passEnd hbelow.cursor below hbelow.depth hbelow.cursors nofun
      · refine hbelow.staged hs _ l.cursor l.passEnd hbelow.cursor _ h.depth (fun j hj => ?_) (fun k hk => ?_)
        · rcases List.mem_cons.1 hj with rfl | hj
          · rename_i hend
            show i.cursor + (walk s l (i.items.drop i.cursor)).faults.length + 1 < i.items.length
            omega
          · exact hbelow.cursors j hj
        · rename_i hend
          have hk' := Option.some.inj hk
          show k < i.items.length
          omega

/-- An attempt at a refill keeps a lane sound (spec 07 R98 to R103, spec 08 R125). -/
theorem LaneOk.refill {l : Lane} (h : LaneOk l) (s : State) : LaneOk (refill s l).1 := by
  unfold Machine.refill
  split
  · exact h
  · rename_i hr
    obtain ⟨hs, hslot⟩ : l.state = .running ∧ l.slot = none := by simpa using hr
    split
    · exact h.drained
    · exact refillContexts_ok s _ l h hs hslot

/-! ## The lane commands -/

theorem LaneOk.replaced {l : Lane} (h : LaneOk l) (items : List Nat) (hi : items.length ≤ 128) :
    LaneOk (replaceBase l items) := by
  refine ⟨hi, h.screen, h.depth, h.speeds, h.faults, ?_, ?_, h.idle, .inl rfl, h.cursors, ?_, h.order⟩
  · rcases h.running with hs | ⟨hij, hslot, hst⟩
    · exact .inl hs
    · exact .inr ⟨hij, by simp [replaceBase, hslot], hst⟩
  · intro hst
    simp [replaceBase, h.starved hst]
  · intro e k he hk
    cases hij : l.interjections with
    | nil =>
      simp only [replaceBase, hij, List.isEmpty_nil, if_true, Option.map_eq_some_iff] at he
      obtain ⟨e', -, rfl⟩ := he
      cases hk
    | cons i below =>
      have hpos := h.position e k (by simpa [replaceBase, hij] using he) hk
      simpa [activeList, replaceBase, hij] using hpos

theorem LaneOk.appended {l : Lane} (h : LaneOk l) (items : List Nat) (hi : l.base.length + items.length ≤ 128) :
    LaneOk { l with base := l.base ++ items } := by
  refine ⟨by simpa using hi, h.screen, h.depth, h.speeds, h.faults, h.running, h.starved, h.idle, ?_, h.cursors, ?_, h.order⟩
  · have := h.cursor; simp; omega
  · intro e k he hk
    have hpos := h.position e k he hk
    cases hij : l.interjections <;> simp [activeList, hij] at hpos ⊢ <;> omega

theorem LaneOk.started {l : Lane} (h : LaneOk l) (mode : LaneMode) (start : Nat) (hs : l.state ≠ .running) :
    LaneOk (startLane l mode start) := by
  obtain ⟨hij, hslot, -⟩ := h.running.resolve_left hs
  refine ⟨h.base, h.screen, h.depth, h.speeds, h.faults, .inl rfl, nofun, nofun, ?_, h.cursors, ?_, h.order⟩
  · simp only [startLane]
    split
    · exact .inr ‹_›
    · exact .inl rfl
  · intro e k he
    exact absurd (hslot.symm.trans he) nofun

/-- The staged entry goes back to its own place of the active list (spec 08 R123 step 1). -/
theorem LaneOk.returned {l : Lane} (h : LaneOk l) (hs : l.state = .running) :
    LaneOk (returnStaged l) ∧ (returnStaged l).state = .running ∧
      (returnStaged l).interjections.length = l.interjections.length := by
  unfold returnStaged
  split
  · exact ⟨h, hs, rfl⟩
  · rename_i e he
    split
    · exact ⟨h.withContexts hs _ h.depth h.cursors, hs, rfl⟩
    · rename_i k hk
      have hpos := h.position e k he hk
      unfold setBack
      dsimp only
      cases hij : l.interjections with
      | nil =>
        have h0 := h.withContexts hs [] (Nat.zero_le _) nofun
        have hk : k < l.base.length := by simpa [activeList, hij] using hpos
        have h1 := h0.atCursor k (.inr hk)
        exact ⟨⟨h1.base, h1.screen, h1.depth, h1.speeds, h1.faults, h1.running, h1.starved, h1.idle, h1.cursor, h1.cursors,
          nofun, h1.order⟩, hs, rfl⟩
      | cons i below =>
        refine ⟨h.withContexts hs _ (by have := h.depth; simpa [hij] using this) (fun j hj => ?_), hs, by simp⟩
        rcases List.mem_cons.1 hj with rfl | hj
        · simpa [activeList, hij] using hpos
        · exact h.cursors j (by simp [hij, hj])

theorem returnStaged_slot (l : Lane) : (returnStaged l).slot = none := by
  unfold returnStaged
  split
  · assumption
  · split
    · rfl
    · unfold setBack; split <;> rfl

theorem LaneOk.interjected {l : Lane} (h : LaneOk l) (items : List Nat) (hi : items ≠ []) (hs : l.state = .running)
    (hd : l.interjections.length < 3) : LaneOk (pushInterjection l items) := by
  obtain ⟨h1, hs1, hd1⟩ := h.returned hs
  have h2 := h1.withContexts hs1 ({ items := items, cursor := 0 } :: (returnStaged l).interjections)
    (by simp; omega) (fun j hj => by
      rcases List.mem_cons.1 hj with rfl | hj
      · exact List.length_pos_iff.2 hi
      · exact h1.cursors j hj)
  rw [← returnStaged_slot l] at h2
  exact h2

/-- Every lane that a command refills is sound before the attempt. -/
theorem LaneOk.of_refilled {l k : Lane} (h : LaneOk l) (hk : LaneRefilled l k) : LaneOk k := by
  cases hk with
  | replaced items hi => exact h.replaced items hi
  | appended items hi => exact h.appended items hi
  | started mode start hs => exact h.started mode start hs
  | interjected items hi hs hd => exact h.interjected items hi hs hd
  | cancelled i below hij =>
    have hs : l.state = .running := h.running.resolve_right fun hr => by simp [hij] at hr
    exact h.withContexts hs below (by have := h.depth; simp [hij] at this; omega)
      (fun j hj => h.cursors j (by simp [hij, hj]))

theorem LaneOk.of_set {l k : Lane} (h : LaneOk l) (hk : LaneSet l k) : LaneOk k := by
  cases hk with
  | configured owner c =>
    exact ⟨h.base, h.screen, h.depth, h.speeds, h.faults, h.running, h.starved, h.idle, h.cursor, h.cursors, h.position,
      h.order⟩
  | cut =>
    obtain ⟨hs, -, hstep⟩ := h.speeds
    exact ⟨h.base, Nat.zero_le _, Nat.zero_le _, ⟨hs, hs, hstep⟩, h.faults, .inr ⟨rfl, rfl, rfl⟩, nofun, fun _ => rfl,
      .inl rfl, nofun, nofun, .nil⟩
  | drained =>
    unfold drainLane
    split
    · exact h.drained
    · exact h
  | paced target step ht hs =>
    exact ⟨h.base, h.screen, h.depth, ⟨h.speeds.1, ht, hs⟩, h.faults, h.running, h.starved, h.idle, h.cursor, h.cursors,
      h.position, h.order⟩

/-! ## The stages of an output frame start -/

/-- Stages 1 to 5 of a lane that is not held. -/
def stagesBeforePlacement (f : Format) (l : Lane) : Lane :=
  removalStage (motionStage (incrementStage f (rampStage (configStage f l))))

theorem laneStages_held (s : State) (l : Lane) :
    laneStages s true l = (incrementStage s.timing.format (configStage s.timing.format l), 0) := rfl

theorem laneStages_unheld (s : State) (l : Lane) : laneStages s false l =
    (drainStage (placementStage s (stagesBeforePlacement s.timing.format l)).1,
      (placementStage s (stagesBeforePlacement s.timing.format l)).2) := by
  simp only [laneStages, Bool.false_eq_true, if_false, stagesBeforePlacement]

theorem LaneOk.configured {l : Lane} (h : LaneOk l) (f : Format) : LaneOk (configStage f l) :=
  ⟨h.base, h.screen, h.depth, h.speeds, h.faults, h.running, h.starved, h.idle, h.cursor, h.cursors, h.position, h.order⟩

/-- The ramp keeps the speed in range (spec 07 R106). -/
theorem LaneOk.ramped {l : Lane} (h : LaneOk l) : LaneOk (rampStage l) :=
  ⟨h.base, h.screen, h.depth, ⟨rampSpeed_le _ _ _ 960 h.speeds.1 h.speeds.2.1, h.speeds.2⟩, h.faults, h.running, h.starved,
    h.idle, h.cursor, h.cursors, h.position, h.order⟩

theorem LaneOk.incremented {l : Lane} (h : LaneOk l) (f : Format) : LaneOk (incrementStage f l) :=
  ⟨h.base, h.screen, h.depth, h.speeds, h.faults, h.running, h.starved, h.idle, h.cursor, h.cursors, h.position, h.order⟩

theorem LaneOk.moved {l : Lane} (h : LaneOk l) : LaneOk (motionStage l) := by
  unfold motionStage
  split
  · exact h
  · refine ⟨h.base, by simpa using h.screen, h.depth, h.speeds, h.faults, h.running, h.starved, fun hi => by
      simp [h.idle hi], h.cursor, h.cursors, h.position, ?_⟩
    refine List.Pairwise.map _ (fun p q hpq => ?_) h.order
    show p.x - (l.increment : Int) + (p.entry.width : Int) * 65536 ≤ q.x - (l.increment : Int)
    omega

theorem LaneOk.removed {l : Lane} (h : LaneOk l) : LaneOk (removalStage l) :=
  ⟨h.base, Nat.le_trans (List.dropWhile_sublist _).length_le h.screen, h.depth, h.speeds, h.faults, h.running, h.starved,
    fun hi => by simp [removalStage, h.idle hi], h.cursor, h.cursors, h.position,
    List.Pairwise.sublist (List.dropWhile_sublist _) h.order⟩

/-- What ends before the last entry's left edge ends before the tail (spec 07 R109, R112). -/
theorem le_tail (l : Lane) (h : ListInOrder l) (p : Placed) (hp : p ∈ l.screen) :
    p.x + (p.entry.width : Int) * 65536 ≤ tail l := by
  have hne : l.screen ≠ [] := List.ne_nil_of_mem hp
  have htail : tail l = (l.screen.getLast hne).x +
      (((l.screen.getLast hne).entry.width : Int) + (l.config.gap : Int)) * 65536 := by
    simp [tail, List.getLast?_eq_some_getLast hne]
  have hlast := List.dropLast_concat_getLast hne
  rw [htail]
  rw [← hlast] at hp
  rcases List.mem_append.1 hp with hp | hp
  · have hord : (l.screen.dropLast ++ [l.screen.getLast hne]).Pairwise
        fun p q => p.x + (p.entry.width : Int) * 65536 ≤ q.x := by rw [hlast]; exact h
    have hpq := (List.pairwise_append.1 hord).2.2 p hp _ (List.mem_singleton_self _)
    omega
  · rw [List.mem_singleton.1 hp]; omega

theorem LaneOk.placed {l : Lane} (h : LaneOk l) (e : Staged) (hs : l.state = .running) (hlen : l.screen.length < 16) :
    LaneOk (placeEntry l e) := by
  refine ⟨h.base, by simp [placeEntry]; omega, h.depth, h.speeds, h.faults, .inl hs, fun _ => rfl, fun hi => ?_, h.cursor,
    h.cursors, nofun, ?_⟩
  · exact absurd (hs.symm.trans hi) (by decide)
  · refine List.pairwise_append.2 ⟨h.order, List.pairwise_singleton _ _, fun p hp q hq => ?_⟩
    rw [List.mem_singleton.1 hq]
    exact le_tail l h.order p hp

theorem LaneOk.placeLoop {l : Lane} (h : LaneOk l) (s : State) (fuel : Nat) : LaneOk (placeLoop s fuel l).1 := by
  induction fuel generalizing l with
  | zero => exact h
  | succ fuel ih =>
    unfold Machine.placeLoop
    split
    · exact h
    · rename_i e he
      split
      · rename_i hp
        have hs : l.state = .running := h.running.resolve_right fun hr => by simp [he] at hr
        exact ih ((h.placed e hs hp.2).refill s)
      · exact h

theorem LaneOk.placement {l : Lane} (h : LaneOk l) (s : State) : LaneOk (placementStage s l).1 := by
  unfold placementStage
  split
  · exact h
  · have hl := (h.refill s).placeLoop s 16
    show LaneOk (countCrowded _)
    unfold countCrowded
    split
    · exact ⟨hl.base, hl.screen, hl.depth, hl.speeds, hl.faults, hl.running, hl.starved, hl.idle, hl.cursor, hl.cursors,
        hl.position, hl.order⟩
    · exact hl

theorem LaneOk.drainStage {l : Lane} (h : LaneOk l) : LaneOk (drainStage l) := by
  unfold Machine.drainStage
  split
  · rename_i hd
    obtain ⟨hs, he⟩ := hd
    have hr := h.running.resolve_left (by simp [hs])
    exact ⟨h.base, h.screen, h.depth, h.speeds, h.faults, .inr hr, h.starved, fun _ => by simpa using he, .inl rfl,
      h.cursors, h.position, h.order⟩
  · exact h

theorem LaneOk.laneStages {l : Lane} (h : LaneOk l) (s : State) (held : Bool) : LaneOk (laneStages s held l).1 := by
  cases held with
  | true =>
    rw [laneStages_held]
    exact (h.configured _).incremented _
  | false =>
    rw [laneStages_unheld]
    have hstages : LaneOk (stagesBeforePlacement s.timing.format l) :=
      ((h.configured _).ramped.incremented _).moved.removed
    exact (hstages.placement s).drainStage

/-! ## The drawing of a line -/

theorem LaneOk.marked {l : Lane} (h : LaneOk l) (n : Nat) (c : Counter) :
    LaneOk { markOnScreen l n with clipped := c } := by
  refine ⟨h.base, by simpa [markOnScreen] using h.screen, h.depth, h.speeds, h.faults, h.running, h.starved,
    fun hi => by simp [markOnScreen, h.idle hi], h.cursor, h.cursors, h.position, ?_⟩
  refine List.Pairwise.map _ (fun p q hpq => ?_) h.order
  have same : ∀ p : Placed, (if p.number = n then { p with entry := { p.entry with clipped := true } } else p).x = p.x ∧
      (if p.number = n then { p with entry := { p.entry with clipped := true } } else p).entry.width = p.entry.width := by
    intro p; split <;> exact ⟨rfl, rfl⟩
  rw [(same p).1, (same p).2, (same q).1]
  exact hpq

theorem LaneOk.judgeEntry {l : Lane} (h : LaneOk l) (g : GlyphStore) (e : SnapEntry) : LaneOk (judgeEntry g l e).1 := by
  unfold Machine.judgeEntry
  split
  · exact h.marked _ _
  · exact h

theorem LaneOk.judgeEntries {l : Lane} (h : LaneOk l) (g : GlyphStore) (es : List SnapEntry) :
    LaneOk (judgeEntries g l es).1 := by
  induction es generalizing l with
  | nil => exact h
  | cons e es ih => exact ih (h.judgeEntry g e)

theorem LaneOk.judgeLane {l : Lane} (h : LaneOk l) (g : GlyphStore) (line : Nat) (sn : Snapshot) :
    LaneOk (judgeLane g line l sn).1 := by
  unfold Machine.judgeLane
  split
  · exact h.judgeEntries g _
  · exact h

/-! ## The steps -/

/-- Every lane is sound. -/
def LanesOk (s : State) : Prop := ∀ l ∈ s.lanes.toList, LaneOk l

theorem lanesOk_iff (s : State) : LanesOk s ↔ LanesSound s ∧ ListsInOrder s := by
  unfold LanesSound ListsInOrder
  rw [Quad.forAll_iff]
  exact ⟨fun h => ⟨fun l hl => ((laneOk_iff l).1 (h l hl)).1, fun l hl => ((laneOk_iff l).1 (h l hl)).2⟩,
    fun ⟨h1, h2⟩ l hl => (laneOk_iff l).2 ⟨h1 l hl, h2 l hl⟩⟩

theorem LanesOk.at {s : State} (h : LanesOk s) (m : Nat) : LaneOk (laneOf s m) := h _ (Quad.get_mem _ m)

theorem LanesOk.setLane {s : State} (h : LanesOk s) (m : Nat) (l : Lane) (hl : LaneOk l) : LanesOk (setLane s m l) := by
  intro k hk
  rcases Quad.mem_set _ _ _ _ hk with rfl | hk
  · exact hl
  · exact h k hk

theorem lanesOk_map (s : State) (f : Lane → Lane) (ls : Quad Lane) (he : s.lanes = ls.map f)
    (h : ∀ l ∈ ls.toList, LaneOk (f l)) : LanesOk s := by
  intro k hk
  obtain ⟨m, rfl⟩ := Quad.exists_get_of_mem _ k hk
  rw [he, Quad.get_map]
  exact h _ (Quad.get_mem _ _)

theorem LanesOk.countClipping {s : State} (h : LanesOk s) (line : Nat) : LanesOk (countClipping line s) := by
  unfold Machine.countClipping
  split
  · exact h
  · intro k hk
    simp only [judgeLanes, Quad.toList, List.mem_cons, List.not_mem_nil, or_false] at hk
    rcases hk with rfl | rfl | rfl | rfl
    · exact (h _ (by simp [Quad.toList])).judgeLane _ _ _
    · exact (h _ (by simp [Quad.toList])).judgeLane _ _ _
    · exact (h _ (by simp [Quad.toList])).judgeLane _ _ _
    · exact (h _ (by simp [Quad.toList])).judgeLane _ _ _

theorem makeAct_lanesOk (changed : Bool) (a : FrameAct) (r : FrameRun) (h : LanesOk r.state) :
    LanesOk (makeAct changed a r).state := by
  cases a with
  | lane m => exact h.setLane m _ ((h.at m).laneStages _ _)
  | guard =>
    obtain ⟨g, n, k, he⟩ := guardEvaluate_touches r.state
    simp only [makeAct, he]
    exact h
  | line programme =>
    rcases overtakeLine_cases r.ending programme r.state with he | ⟨fr, _, _, he⟩
    · simp only [makeAct, he]; exact h
    · simp only [makeAct, he]; exact h.countClipping _
  | _ => exact h

theorem stored_lanesOk (s t : State) (h : StoreEffect s t) (hs : LanesOk s) : LanesOk t := by
  cases h with
  | refilled m l hl => exact hs.setLane m _ (((hs.at m).of_refilled hl).refill s)
  | lane m l hl => exact hs.setLane m _ ((hs.at m).of_set hl)
  | _ => exact hs

theorem lanesOk_partsKeep : PartsKeep LanesOk where
  guarded _ _ _ _ hs := hs
  queued _ _ _ hs := hs
  pending _ _ hs := hs
  pins _ _ hs := hs
  powerOn s _ := fun l hl => Quad.eq_of_mem_all _ l hl ▸ laneOk_initial _ _
  runReset s hs := lanesOk_map _ resetRunLane s.lanes rfl fun l hl =>
    ⟨(hs l hl).base, Nat.zero_le _, Nat.zero_le _, ⟨Nat.zero_le _, Nat.zero_le _, Nat.zero_le _⟩, Nat.zero_le _, .inr ⟨rfl, rfl, rfl⟩, nofun, fun _ => rfl,
      .inl rfl, nofun, nofun, .nil⟩
  allReset s _ := lanesOk_map _ resetAllLane s.lanes rfl fun l _ => laneOk_initial l.geometry l.nextNumber
  settings _ _ hs := hs
  begun order s hs := frameStart_keeps (P := LanesOk) (fun _ hs => hs) makeAct_lanesOk
    (fun _ hs => hs) order s hs
  arrived _ _ hs := hs
  expired _ hs := hs
  followed f blanking before s hs := by
    obtain ⟨starts, h, _⟩ := followFrame_frame f blanking before s
    rw [h]; exact hs
  drawn programme s hs := by
    unfold drawLine
    split
    · exact hs
    · split
      · exact hs.countClipping _
      · exact hs
  stored := stored_lanesOk
  completed _ _ hs := hs

/-- Settles O15: each lane's write, stage and marking keeps a sound lane sound. -/
theorem lanesStaySound : Obligations.LanesStaySound := fun s t hl ho ht =>
  (lanesOk_iff t).1 (lanesOk_partsKeep.stepKeeps.step s t ((lanesOk_iff s).2 ⟨hl, ho⟩) ht)

/-! ## The part right after power-on reset -/

theorem storesSound_reset : StoresSound State.reset :=
  (storesSound_iff _).2 ⟨⟨Memory.reset_wf, wf_nil none, wf_nil none⟩, quoteStoresSound_initial, ⟨palette_initial_wf,
    palette_initial_wf⟩, glyphStoresSound_initial _⟩

theorem lanesOk_reset : LanesOk State.reset := fun l hl => Quad.eq_of_mem_all _ l hl ▸ laneOk_initial _ _

/-- Settles O60: nothing is stored, queued or shown yet. -/
theorem resetIsSound : Obligations.ResetIsSound := by
  obtain ⟨hlimits, hstale, hsymbols⟩ := (quoteSound_iff State.reset).1 (quoteSound_initial _)
  obtain ⟨hlanes, hlists⟩ := (lanesOk_iff State.reset).1 lanesOk_reset
  obtain ⟨hincrements, -⟩ := (motionsSound_iff State.reset).1 (motionsSound_of_zero _ rfl)
  exact ⟨by decide, by decide, ⟨by decide, fun _ => rfl, nofun, nofun⟩, storesSound_reset, hlimits, hstale, hsymbols,
    hlanes, hincrements, hlists, by decide, by decide, nofun, by decide⟩

end Sys2Proof.Machine
end

section
/-! PROOFS. The commands that write the glyph store, the palette, the styles, the text store and the items (spec 04 to 06): each
at a ready state, applied or refused. -/

namespace Sys2Proof.Machine

open Sys2Proof

/-! ## A command at a ready state -/

/-- A command whose checks pass is applied (spec 02 R21 step 4). -/
theorem applied_of_ok {h : Header} {c : Command} {s t : State} (r : Ready s) (hc : Command.consistent c = true)
    (ht : runCommand h c s = .ok t) : whileRunning (submit h c) s = .next t := by
  rw [whileRunning_submit h c s r, takeCommand_of_ok h c s t hc ht]

/-- A command whose checks fail is refused with their reason (spec 02 R22). -/
theorem refused_of_error {h : Header} {c : Command} {s : State} {e : Reason} (r : Ready s)
    (hc : Command.consistent c = true) (ht : runCommand h c s = .error e) :
    whileRunning (submit h c) s = .next (refuse h.seq (Command.code c) e s) := by
  rw [whileRunning_submit h c s r, takeCommand_of_error h c s e hc ht]

/-! ## Runs of contents -/

theorem get_setRun_inside {α : Type} [DecidableEq α] (d : α) (t : Table α) (k i : Nat) (vs : List α) (v : α)
    (h : Table.wf d t) (hv : vs[i]? = some v) : Table.get d (Table.setRun d t k vs) (k + i) = v := by
  have hi : i < vs.length := (List.getElem?_eq_some_iff.1 hv).1
  rw [Table.get_setRun d t k _ vs h, if_pos ⟨by omega, by omega⟩, Nat.add_sub_cancel_left, List.getD_eq_getElem?_getD, hv]
  rfl

theorem get_setRun_outside {α : Type} [DecidableEq α] (d : α) (t : Table α) (k j : Nat) (vs : List α) (h : Table.wf d t)
    (hj : j < k ∨ k + vs.length ≤ j) : Table.get d (Table.setRun d t k vs) j = Table.get d t j := by
  rw [Table.get_setRun d t k _ vs h, if_neg (by omega)]

theorem styleAt_setStyle (s : State) (n j : Nat) (x : Option Style) (h : Table.wf none s.styles) :
    styleAt (setStyle s n x) j = if j = n then x else styleAt s j :=
  (Table.get_set none s.styles n j x h).trans (by simp only [eq_comm]; rfl)

theorem itemAt_setItem (s : State) (n j : Nat) (x : Option Item) (h : Table.wf none s.items) :
    itemAt (setItem s n x) j = if j = n then x else itemAt s j :=
  (Table.get_set none s.items n j x h).trans (by simp only [eq_comm]; rfl)

theorem symbolAt_setSymbol (q : QuoteUnit) (n j : Nat) (x : Option Symbol) (h : Table.wf none q.symbols) :
    symbolAt (setSymbol q n x) j = if j = n then x else symbolAt q j :=
  (Table.get_set none q.symbols n j x h).trans (by simp only [eq_comm]; rfl)

/-! ## Palette -/

/-- Settles O32: the run of clamped colours is written, and read back place by place. -/
theorem paletteWriteStoresClampedColours : Obligations.PaletteWriteStoresClampedColours := by
  intro h first colours s r hl h1 h32 h64 hwf
  refine ⟨{ s.palette with written := Table.setRun Colour.black s.palette.written first.toNat (colours.map clampColour) },
    applied_of_ok r (by simp [Command.consistent, h1, h32]) ?_, rfl, fun i c hc => ?_, fun j hj => ?_⟩
  · simp [runCommand, doPaletteWrite, Nat.not_lt.2 hl, Nat.not_lt.2 h64]
  · exact get_setRun_inside _ _ _ _ _ _ hwf (by simp [hc, clampColour])
  · exact get_setRun_outside _ _ _ _ _ hwf (by simpa using hj)

/-! ## Glyph store -/

theorem indexField_of_ok (x : Half) (h : x = 0xFFFF ∨ x.toNat ≤ 1023) :
    indexField x = some (if x = 0xFFFF then none else some x.toNat) := by
  unfold indexField absentHalf
  split
  · rfl
  · rename_i hx
    rw [if_pos (by have := h.resolve_left hx; omega)]

theorem definedFont_of_get (s : State) (font : Byte) (d : FontDef) (hf : font.toNat ≤ 3)
    (hd : s.glyphs.fonts.get font.toNat = some d) : definedFont s font = some d := by
  rw [definedFont, if_pos (by omega), hd]

theorem allIdle_of_busy (s : State) (h : ∃ l ∈ s.lanes.toList, l.state ≠ .idle) : allIdle s = false := by
  obtain ⟨l, hl, hs⟩ := h
  exact Bool.eq_false_iff.2 fun hi => hs ((allIdle_iff s).1 hi l hl)

/-- Settles O33: the range checks pass, and the lanes' states decide. -/
theorem fontDefineNeedsIdleLanes : Obligations.FontDefineNeedsIdleLanes := by
  intro h f s r hl hf hb hc hbc hd
  have hcount : ¬(f.count.toNat < 1 ∨ 1024 < f.base.toNat + f.count.toNat) := by omega
  refine ⟨fun hi => applied_of_ok r rfl ?_, fun hi => refused_of_error r rfl ?_⟩
  · simp only [runCommand, doFontDefine, hl, Nat.lt_irrefl, Nat.not_lt.2 hf, Nat.not_lt.2 hb, hcount,
      indexField_of_ok _ hd, (allIdle_iff s).2 hi, if_true, if_false]
  · simp only [runCommand, doFontDefine, hl, Nat.lt_irrefl, Nat.not_lt.2 hf, Nat.not_lt.2 hb, hcount,
      indexField_of_ok _ hd, allIdle_of_busy s hi, Bool.false_eq_true, if_false]

/-- Settles O34: the checks pass, and the operation begins with its target. -/
theorem glyphWritesBeginAtTheirTaking : Obligations.GlyphWritesBeginAtTheirTaking := by
  intro h d s r
  refine ⟨fun f hl hf hd hi h1 h7 h32 h64 => applied_of_ok r ?_ ?_, fun font hl hf hd hi => applied_of_ok r rfl ?_⟩
  · simpa [Command.consistent, h1, h7] using h32
  · simp [runCommand, doGlyphRows, Nat.not_lt.2 hl, definedFont_of_get s f.font d hf hd, Nat.not_le.2 hi, Nat.not_lt.2 h64]
  · simp [runCommand, doFontClear, hl, definedFont_of_get s font d hf hd, (allIdle_iff s).2 hi]

/-! ### Widths and coverage of a slot -/

theorem withWidths_rows (x : Glyph) (a b : Nat) : (Glyph.withWidths x a b).rows = x.rows ∧
    (Glyph.withWidths x a b).fill = x.fill := ⟨rfl, rfl⟩

/-- The widths written are read: those of a slot filled with zero are not kept where they are 0 (spec 04 R47). -/
theorem widths_withWidths (x : Glyph) (n a b : Nat) :
    (Glyph.withWidths x a b).widths.getD (fillWidths (Glyph.withWidths x a b).fill n) = (a, b) := by
  simp only [Glyph.withWidths]
  split
  · rename_i h
    rw [h.1, h.2]; rfl
  · rfl

/-- Slots that have the same rows and fill have the same coverage. -/
theorem coverageOf_congr (g k : GlyphStore) (n row column : Nat) (hr : (glyphAt k n).rows = (glyphAt g n).rows)
    (hf : (glyphAt k n).fill = (glyphAt g n).fill) : coverageOf k n row column = coverageOf g n row column := by
  simp only [coverageOf, hr, hf]

/-- Settles O35: the widths of the one slot are replaced, its rows and every other slot stand. -/
theorem glyphMetricsWritesTheWidths : Obligations.GlyphMetricsWritesTheWidths := by
  intro h f d s r hl hf hd hi hwf
  let advance := clampTo 0 64 f.advance.toNat
  let bitmap := min (clampTo 0 64 f.bitmap.toNat) advance
  let slot := d.base + f.index.toNat
  have hat : ∀ n, glyphAt (setGlyph s.glyphs slot (Glyph.withWidths (glyphAt s.glyphs slot) advance bitmap)) n =
      if slot = n then Glyph.withWidths (glyphAt s.glyphs slot) advance bitmap else glyphAt s.glyphs n :=
    fun n => glyphAt_setGlyph s.glyphs slot n _ hwf
  refine ⟨setGlyph s.glyphs slot (Glyph.withWidths (glyphAt s.glyphs slot) advance bitmap), applied_of_ok r rfl ?_, ?_, ?_,
    fun n hn => by rw [hat, if_neg (Ne.symm hn)], fun n row column => ?_, rfl, rfl, rfl⟩
  · simp [runCommand, doGlyphMetrics, Nat.not_lt.2 hl, definedFont_of_get s f.font d hf hd, hi, advance, bitmap, slot]
  · rw [advanceOf, hat, if_pos rfl, widths_withWidths]
  · rw [bitmapOf, hat, if_pos rfl, widths_withWidths]
  · by_cases hn : slot = n
    · refine coverageOf_congr _ _ n row column ?_ ?_ <;> rw [hat, if_pos hn, hn] <;> rfl
    · refine coverageOf_congr _ _ n row column ?_ ?_ <;> rw [hat, if_neg hn]

/-- Settles O36: the run of entries is written in the one code map. -/
theorem codeMapWriteStoresItsRun : Obligations.CodeMapWriteStoresItsRun := by
  intro h f s r hl hf h1 h112 h256 he hwf
  have hall : (f.entries.all fun e => (indexField e).isSome) = true := by
    simp only [List.all_eq_true]
    intro e hm
    rw [indexField_of_ok e (he e hm)]; rfl
  refine ⟨Table.setRun none (s.glyphs.maps.get f.font.toNat) f.first.toNat (f.entries.map fun e => (indexField e).getD none),
    applied_of_ok r (by simp [Command.consistent, h1, h112]) ?_, fun i e hi => ?_, fun c hc => ?_⟩
  · simp only [runCommand, doCodeMapWrite, Nat.not_lt.2 hl, Nat.not_lt.2 hf, Nat.not_lt.2 h256, hall, if_true, if_false]
  · refine get_setRun_inside _ _ _ _ _ _ hwf ?_
    rw [List.getElem?_map, hi, Option.map_some, indexField_of_ok e (he e (List.mem_of_getElem? hi))]
    rfl
  · exact get_setRun_outside _ _ _ _ _ hwf (by simpa using hc)

/-! ## Styles and text -/

theorem levelAbove_of_le (level : Nat) (owner : Option Nat) (h : ∀ o, owner = some o → level ≤ o) :
    levelAbove level owner = false := by
  cases owner with
  | none => rfl
  | some o => simpa [levelAbove] using h o rfl

theorem levelAbove_map {α : Type} (level : Nat) (x : Option α) (owner : α → Nat) (h : ∀ a, x = some a → level ≤ owner a) :
    levelAbove level (x.map owner) = false := by
  refine levelAbove_of_le _ _ fun o ho => ?_
  obtain ⟨a, ha, rfl⟩ := Option.map_eq_some_iff.1 ho
  exact h a ha

/-- Settles O37: the checks pass, and the one descriptor is replaced. -/
theorem styleWriteReplacesTheDescriptor : Obligations.StyleWriteReplacesTheDescriptor := by
  intro h f s r h1 h63 hown ho hf ht hb hfl hwf
  have hcolours : ¬(63 < f.textColour.toNat ∨ 63 < f.bandColour.toNat ∨ 63 < f.flashColour.toNat) := by omega
  refine ⟨setStyle s f.selector.toNat (some (styleOf h f)), applied_of_ok r rfl ?_, ?_,
    fun n hn => ?_, rfl⟩
  · simp only [runCommand, doStyleWrite, styleSelectorOk, h1, h63, levelAbove_map _ _ _ hown, Nat.not_lt.2 ho,
      Nat.not_lt.2 hf, hcolours, and_self, decide_true, Bool.not_true, Bool.false_eq_true, if_false]
  · rw [styleAt_setStyle s _ _ _ hwf, if_pos rfl]; rfl
  · rw [styleAt_setStyle s _ _ _ hwf, if_neg hn]

/-- Settles O39: a run within the store is written, one beyond it is refused. -/
theorem textWriteStoresItsRun : Obligations.TextWriteStoresItsRun := by
  intro h offset codes s r hl h1 h238 hwf
  have hc : Command.consistent (.textWrite offset codes) = true := by simp [Command.consistent, h1, h238]
  refine ⟨fun hin => ⟨Memory.writeRun s.text offset.toNat codes, applied_of_ok r hc ?_, fun i c hi => ?_, fun a ha => ?_⟩,
    fun hout => refused_of_error r hc ?_⟩
  · simp [runCommand, doTextWrite, Nat.not_lt.2 hl, Nat.not_lt.2 hin]
  · exact get_setRun_inside _ _ _ _ _ _ hwf hi
  · exact get_setRun_outside _ _ _ _ _ hwf ha
  · simp [runCommand, doTextWrite, Nat.not_lt.2 hl, hout]

/-! ## Items and symbols -/

/-- The part of its kind in an ITEM_WRITE whose values are in range (spec 06 R75 steps 5 and 6). -/
theorem itemBodyOf_of_ok (f : ItemFields) (body : ItemBody)
    (h : f.kind = 1 ∧ f.offset.toNat ≤ 32767 ∧ 1 ≤ f.length.toNat ∧ f.length.toNat ≤ 1024 ∧
        body = .text f.offset.toNat f.length.toNat ∨
      f.kind = 2 ∧ f.symbol.toNat ≤ 511 ∧ f.fieldSet.toNat < 32 ∧ f.fieldSet.getLsbD 0 = true ∧
        body = .quote f.symbol.toNat { price := f.fieldSet.getLsbD 1, arrow := f.fieldSet.getLsbD 2,
                                       change := f.fieldSet.getLsbD 3, percent := f.fieldSet.getLsbD 4 } ∨
      f.kind = 3 ∧ body = .separator f.sepCode (clampTo 1 255 f.sepWidth.toNat)) :
    (1 ≤ f.kind.toNat ∧ f.kind.toNat ≤ 3) ∧ itemBodyOf f = some body := by
  rcases h with ⟨hk, ho, h1, h2, rfl⟩ | ⟨hk, hs, hf, h0, rfl⟩ | ⟨hk, rfl⟩ <;> rw [hk]
  · exact ⟨by decide, by simp [itemBodyOf, hk, ho, h1, h2]⟩
  · exact ⟨by decide, by simp [itemBodyOf, hk, hs, fieldSetOf, h0, hf]⟩
  · exact ⟨by decide, by simp [itemBodyOf, hk]⟩

/-- Settles O40: the checks pass, and the one record is replaced. -/
theorem itemWriteReplacesTheRecord : Obligations.ItemWriteReplacesTheRecord := by
  intro h f body s r hi hown hsel hwf hb
  obtain ⟨hk, hbody⟩ := itemBodyOf_of_ok f body hb
  have hkind : ¬(f.kind.toNat < 1 ∨ 3 < f.kind.toNat) := by omega
  refine ⟨setItem s f.item.toNat (some { owner := h.level, selector := f.selector.toNat, body := body }),
    applied_of_ok r rfl ?_, ?_, fun n hn => ?_, rfl⟩
  · simp only [runCommand, doItemWrite, Nat.not_lt.2 hi, levelAbove_map _ _ _ hown, hkind, Nat.not_lt.2 hsel, hbody,
      Bool.false_eq_true, if_false]
  · rw [itemAt_setItem s _ _ _ hwf, if_pos rfl]
  · rw [itemAt_setItem s _ _ _ hwf, if_neg hn]

theorem checkedSymbol_of_absent (h : Header) (n : Half) (s : State) (hn : n.toNat ≤ 511)
    (hx : symbolAt s.quote n.toNat = none) : checkedSymbol h n s = .error .notDefined := by
  simp [checkedSymbol, Nat.not_lt.2 hn, hx]

theorem checkedSymbol_of_present (h : Header) (n : Half) (s : State) (x : Symbol) (hn : n.toNat ≤ 511)
    (hx : symbolAt s.quote n.toNat = some x) (ho : h.level ≤ x.owner) : checkedSymbol h n s = .ok x := by
  simp [checkedSymbol, Nat.not_lt.2 hn, hx, Nat.not_lt.2 ho]

/-- Settles O38: a present object is erased from its table, an absent one refused. -/
theorem dropsRemoveTheObject : Obligations.DropsRemoveTheObject := by
  intro h s r hstyles hitems hsymbols
  refine ⟨fun n h1 h63 => ⟨fun hx => refused_of_error r rfl ?_, fun x hx ho =>
      ⟨setStyle s n.toNat none, applied_of_ok r rfl ?_, fun j => ?_, rfl⟩⟩,
    fun n hn => ⟨fun hx => refused_of_error r rfl ?_, fun x hx ho =>
      ⟨setItem s n.toNat none, applied_of_ok r rfl ?_, fun j => ?_, rfl⟩⟩,
    fun n hn hl => ⟨fun hx => refused_of_error r rfl ?_, fun x hx ho =>
      ⟨{ s with quote := setSymbol s.quote n.toNat none }, applied_of_ok r rfl ?_, fun j => ?_, rfl⟩⟩⟩
  · simp [runCommand, doStyleDrop, styleSelectorOk, h1, h63, hx]
  · simp [runCommand, doStyleDrop, styleSelectorOk, h1, h63, hx, Nat.not_lt.2 ho]
  · exact styleAt_setStyle s _ j none hstyles
  · simp [runCommand, doItemDrop, Nat.not_lt.2 hn, hx]
  · simp [runCommand, doItemDrop, Nat.not_lt.2 hn, hx, Nat.not_lt.2 ho]
  · exact itemAt_setItem s _ j none hitems
  · simp [runCommand, doSymbolDrop, Nat.not_lt.2 hl, checkedSymbol_of_absent h n s hn hx]
  · simp [runCommand, doSymbolDrop, Nat.not_lt.2 hl, checkedSymbol_of_present h n s x hn hx ho]
  · exact symbolAt_setSymbol s.quote _ j none hsymbols

end Sys2Proof.Machine
end

section
/-! PROOFS. The lane commands and the commands of the quote unit (spec 06 to 09), each at a ready state. -/

namespace Sys2Proof.Machine

open Sys2Proof

/-! ## Lane commands -/

theorem checkedLane_of_ok (h : Header) (lane : Byte) (s : State) (hm : lane.toNat ≤ 3)
    (ho : h.level ≤ (laneOf s lane.toNat).owner) : checkedLane h lane s = .ok lane.toNat := by
  simp [checkedLane, laneNumber, Nat.lt_succ_iff.2 hm, Nat.not_lt.2 ho]

theorem itemNumbersOk_of_le (items : List Half) (h : ∀ i ∈ items, i.toNat ≤ 1023) : itemNumbersOk items = true := by
  simpa [itemNumbersOk] using h

/-- Settles O42: the lane's number and level pass, and the owner's change needs level 0. -/
theorem laneConfigAndSpeedSetTheLane : Obligations.LaneConfigAndSpeedSetTheLane := by
  intro h s r
  refine ⟨fun f hm ho hown hd hc => ⟨fun hsame => applied_of_ok r rfl ?_, fun hne hl => refused_of_error r rfl ?_⟩,
    fun lane target stride hm ho => applied_of_ok r rfl ?_⟩
  · have hchange : ¬(f.owner.toNat ≠ (laneOf s f.lane.toNat).owner ∧ h.level ≠ 0) := by
      rintro ⟨h1, h2⟩; exact hsame.elim h1 h2
    have hcolours : ¬(63 < f.defaultStyle.toNat ∨ 63 < f.staleColour.toNat) := by omega
    simp only [runCommand, doLaneConfig, checkedLane_of_ok h f.lane s hm ho, Nat.not_lt.2 hown, hchange, hcolours, if_false]
    rfl
  · simp only [runCommand, doLaneConfig, checkedLane_of_ok h f.lane s hm ho, Nat.not_lt.2 hown, if_false]
    rw [if_pos ⟨hne, hl⟩]
  · simp only [runCommand, doLaneSpeed, checkedLane_of_ok h lane s hm ho]
    rfl

theorem laneModeOf_of_ok (mode : Byte) (h : mode = 0 ∨ mode = 1) :
    laneModeOf mode = some (if mode = 0 then .loop else .singlePass) := by
  rcases h with rfl | rfl <;> rfl

/-- Settles O43: each command passes its checks and refills the lane it has made. -/
theorem playlistsAndStartsEndInARefill : Obligations.PlaylistsAndStartsEndInARefill := by
  intro h lane s r hm ho
  have hlane := checkedLane_of_ok h lane s hm ho
  refine ⟨fun items h116 hi => applied_of_ok r (by simp [Command.consistent, h116]) ?_,
    fun items h1 h116 hi h128 => applied_of_ok r (by simp [Command.consistent, h1, h116]) ?_,
    fun mode start hmode hs => applied_of_ok r rfl ?_⟩
  · simp only [runCommand, doPlaylistWrite, hlane, itemNumbersOk_of_le items hi, if_true, replaceBase,
      List.isEmpty_iff]
    rfl
  · simp only [runCommand, doPlaylistAppend, hlane, itemNumbersOk_of_le items hi, if_true, Nat.not_lt.2 h128, if_false]
    rfl
  · simp only [runCommand, doLaneStart, hlane, laneModeOf_of_ok mode hmode, hs, if_false]
    rfl

/-- Settles O45: the lane's state decides between drain, cut and refusal. -/
theorem laneStopDrainsOrCuts : Obligations.LaneStopDrainsOrCuts := by
  intro h lane s r hm ho
  have hlane := checkedLane_of_ok h lane s hm ho
  have hstop : ∀ mode cut, flagOf mode = some cut → doLaneStop h lane mode s =
      if (laneOf s lane.toNat).state = .idle then .error .state
      else .ok (setLane s lane.toNat (if cut then cutLane (laneOf s lane.toNat) else drainLane (laneOf s lane.toNat))) := by
    intro mode cut hf
    simp only [doLaneStop, hlane, hf]
  refine ⟨fun hs => applied_of_ok r rfl ?_, fun hs => applied_of_ok r rfl ?_, fun hs => applied_of_ok r rfl ?_,
    fun hs => ⟨refused_of_error r rfl ?_, refused_of_error r rfl ?_⟩⟩
  · refine (hstop 0 false rfl).trans ?_
    rw [if_neg (fun hi => by simp [hs] at hi)]
    simp only [Bool.false_eq_true, if_false, drainLane, hs, if_true]; rfl
  · refine (hstop 0 false rfl).trans ?_
    rw [if_neg (fun hi => by simp [hs] at hi)]
    simp only [Bool.false_eq_true, if_false, drainLane, hs, reduceCtorEq]; rfl
  · refine (hstop 1 true rfl).trans ?_
    rw [if_neg hs]; rfl
  · exact (hstop 0 false rfl).trans (if_pos hs)
  · exact (hstop 1 true rfl).trans (if_pos hs)

/-- A staged entry without a list position is lost, and there may be none (spec 08 R123 step 1). -/
theorem returnStaged_of_lost (l : Lane) (h : l.slot.bind Staged.position = none) :
    returnStaged l = { l with slot := none } := by
  unfold returnStaged
  cases hs : l.slot with
  | none => show l = { l with slot := none }; rw [← hs]
  | some e =>
    rw [hs] at h
    have hp : e.position = none := h
    simp only [hp]

/-- A staged entry with a list position goes back to it (spec 08 R123 step 1). -/
theorem returnStaged_of_position (l : Lane) (k : Nat) (h : l.slot.bind Staged.position = some k) :
    returnStaged l = setBack { l with slot := none } k := by
  obtain ⟨e, hs, hp⟩ := Option.bind_eq_some_iff.1 h
  unfold returnStaged
  simp only [hs, hp]

/-- Settles O46: the lane's state, the depth and the staged entry's position decide. -/
theorem interjectionsPushAndPop : Obligations.InterjectionsPushAndPop := by
  intro h lane s r hm ho
  have hlane := checkedLane_of_ok h lane s hm ho
  refine ⟨fun items h1 h8 hi => ?_, fun hij => refused_of_error r rfl ?_, fun i below hij => applied_of_ok r rfl ?_⟩
  · have hc : Command.consistent (.interject lane items) = true := by simp [Command.consistent, h1, h8]
    have hpush : (laneOf s lane.toNat).state = .running → (laneOf s lane.toNat).interjections.length < 3 →
        exec (.interject h lane items) s =
          .next (refillLane lane.toNat (pushInterjection (laneOf s lane.toNat) (itemNumbers items)) s) := by
      intro hs hd
      refine applied_of_ok r hc ?_
      simp only [runCommand, doInterject, hlane, itemNumbersOk_of_le items hi, if_true, hs, Nat.not_le.2 hd, if_false,
        ne_eq, not_true_eq_false]
    refine ⟨fun hs => refused_of_error r hc ?_, fun hs hd => refused_of_error r hc ?_, fun hs hd hp => ?_,
      fun k hs hij hp => ?_, fun k i below hs hij hd hp => ?_⟩
    · simp only [runCommand, doInterject, hlane, itemNumbersOk_of_le items hi, if_true]
      rw [if_pos hs]
    · simp only [runCommand, doInterject, hlane, itemNumbersOk_of_le items hi, if_true, hs, ne_eq, not_true_eq_false, hd,
        if_false]
    · rw [hpush hs hd, pushInterjection, returnStaged_of_lost _ hp]; rfl
    · rw [hpush hs (by simp [hij]), pushInterjection, returnStaged_of_position _ k hp]
      simp only [setBack, hij]; rfl
    · rw [hpush hs hd, pushInterjection, returnStaged_of_position _ k hp]
      simp only [setBack, hij]; rfl
  · simp only [runCommand, doInterjectCancel, hlane, hij]
  · simp only [runCommand, doInterjectCancel, hlane, hij]

/-! ## Symbols -/

/-- Settles O47: the checks pass, and the record is new. -/
theorem symbolDefineMakesTheRecord : Obligations.SymbolDefineMakesTheRecord := by
  intro h f s r hl hplaces hn hown ho h1 h8 hinv hwf
  have htext : ¬(f.textLength.toNat < 1 ∨ 8 < f.textLength.toNat) := by omega
  refine ⟨{ s with quote := setSymbol s.quote f.symbol.toNat (some (symbolOf h f)) }, symbolOf h f,
    applied_of_ok r (by simp [Command.consistent, hplaces]) ?_, ?_, rfl, rfl, rfl, by simp [symbolOf], rfl, rfl, rfl, ?_, ?_,
    rfl, rfl, rfl, rfl, rfl, rfl, rfl, rfl, fun n hne => ?_, rfl⟩
  · simp only [runCommand, doSymbolDefine, Nat.not_lt.2 hl, Nat.not_lt.2 hn, levelAbove_map _ _ _ hown, Nat.not_lt.2 ho,
      htext, Nat.not_lt.2 hinv, Bool.false_eq_true, if_false]
  · exact (symbolAt_setSymbol s.quote _ _ _ hwf).trans (if_pos rfl)
  · simp [symbolOf]
  · simp [symbolOf]
  · exact (symbolAt_setSymbol s.quote _ _ _ hwf).trans (if_neg hne)

/-! ### Change, percent change and class -/

/-- The magnitude of a percent change in hundredths (spec 09 R139). -/
def percentMagnitude (change : Int) (reference : Nat) : Nat :=
  min ((change.natAbs * 20000 + reference) / (2 * reference)) 99999

theorem percentMagnitude_zero (reference : Nat) (h : reference ≠ 0) : percentMagnitude 0 reference = 0 := by
  have : reference / (2 * reference) = 0 := Nat.div_eq_of_lt (by omega)
  simp [percentMagnitude, this]

theorem percentOf_of_ne (change : Int) (reference : Nat) (h : reference ≠ 0) : percentOf change reference =
    some (if change < 0 then -(percentMagnitude change reference : Int) else percentMagnitude change reference) := by
  simp only [percentOf, h, if_false]
  by_cases hn : change < 0
  · simp only [hn, if_true]; rfl
  · by_cases hz : change = 0
    · subst hz; simp [percentMagnitude_zero reference h]
    · simp only [hn, hz, if_false]; rfl

/-- A change is large where its percent change is present and reaches the large threshold (spec 09 R140). -/
theorem classOf_large (change : Int) (reference large : Nat) :
    (match percentOf change reference with
      | some p => decide (large ≤ p.natAbs)
      | none => false) = decide (reference ≠ 0 ∧ large ≤ percentMagnitude change reference) := by
  by_cases h : reference = 0
  · simp [percentOf, h]
  · rw [percentOf_of_ne _ _ h]
    by_cases hn : change < 0 <;> simp [h, hn]

/-- The computed class of a symbol that is not halted (spec 09 R140). -/
theorem classOf_cases (change : Int) (reference large : Nat) :
    (change = 0 → classOf false change (percentOf change reference) large = .flat) ∧
    (0 < change → classOf false change (percentOf change reference) large =
      if reference ≠ 0 ∧ large ≤ percentMagnitude change reference then .upLarge else .upSmall) ∧
    (change < 0 → classOf false change (percentOf change reference) large =
      if reference ≠ 0 ∧ large ≤ percentMagnitude change reference then .downLarge else .downSmall) := by
  refine ⟨fun h => by simp [classOf, h], fun h => ?_, fun h => ?_⟩
  · have hne : change ≠ 0 := by omega
    have hl := classOf_large change reference large
    simp only [classOf, Bool.false_eq_true, if_false, hne, h, if_true]
    split <;> rename_i hif <;> split <;> simp_all
  · have hne : change ≠ 0 := by omega
    have hl := classOf_large change reference large
    simp only [classOf, Bool.false_eq_true, if_false, hne, Int.not_lt.2 (Int.le_of_lt h)]
    split <;> rename_i hif <;> split <;> simp_all

/-- The class filter (spec 09 R141). -/
theorem filterClass_cases (n : Nat) (x : Symbol) :
    (n ≤ 1 → (filterClass n x).displayed = x.computed ∧ (filterClass n x).candidate = none ∧ (filterClass n x).agree = 0) ∧
    (2 ≤ n → x.computed = x.displayed →
      (filterClass n x).displayed = x.displayed ∧ (filterClass n x).candidate = none ∧ (filterClass n x).agree = 0) ∧
    (2 ≤ n → x.computed ≠ x.displayed → x.candidate = some x.computed →
      (n ≤ x.agree + 1 →
        (filterClass n x).displayed = x.computed ∧ (filterClass n x).candidate = none ∧ (filterClass n x).agree = 0) ∧
      (x.agree + 1 < n → (filterClass n x).displayed = x.displayed ∧ (filterClass n x).candidate = x.candidate ∧
        (filterClass n x).agree = x.agree + 1)) ∧
    (2 ≤ n → x.computed ≠ x.displayed → x.candidate ≠ some x.computed →
      (filterClass n x).displayed = x.displayed ∧ (filterClass n x).candidate = some x.computed ∧
        (filterClass n x).agree = 1) := by
  refine ⟨fun h => ?_, fun h he => ?_, fun h hne hc => ⟨fun ha => ?_, fun ha => ?_⟩, fun h hne hc => ?_⟩
  · rw [filterClass, if_pos h]; exact ⟨rfl, rfl, rfl⟩
  · rw [filterClass, if_neg (by omega), if_pos he]; exact ⟨rfl, rfl, rfl⟩
  · rw [filterClass, if_neg (by omega), if_neg hne, if_pos hc, if_pos ha]; exact ⟨rfl, rfl, rfl⟩
  · rw [filterClass, if_neg (by omega), if_neg hne, if_pos hc, if_neg (by omega)]; exact ⟨rfl, rfl, rfl⟩
  · rw [filterClass, if_neg (by omega), if_neg hne, if_neg hc]; exact ⟨rfl, rfl, rfl⟩

/-! ### Quotes -/

/-- A flash starts on a change of price alone (spec 09 R135 step 4). -/
theorem quoteSymbol_flash (q : QuoteUnit) (price : Nat) (x : Symbol) :
    let x1 := filterClass q.classFilter (recomputeSymbol q.largeThreshold { x with last := some price })
    (x.last = none ∨ x.last = some price →
      quoteSymbol q price x = { x1 with flash := x1.flash, age := 0, stale := false }) ∧
    ∀ l, x.last = some l → l ≠ price →
      quoteSymbol q price x = { x1 with flash := (symbolMovement q x1).flash, age := 0, stale := false } := by
  refine ⟨fun h => ?_, fun l hl hne => ?_⟩
  · rcases h with h | h <;> simp only [quoteSymbol, h, bne_self_eq_false, Bool.false_eq_true, if_false]
  · have hb : (l != price) = true := by simpa using hne
    simp only [quoteSymbol, hl, hb, if_true]

/-- What QUOTE leaves a symbol, by the change of price, the class and the filter (spec 09 R135, R139 to R142). -/
theorem doQuote_of_ok (h : Header) (f : PriceFields) (x : Symbol) (s : State) (hn : f.symbol.toNat ≤ 511)
    (hx : symbolAt s.quote f.symbol.toNat = some x) (ho : h.level ≤ x.owner) :
    runCommand h (.quote f) s = .ok (applyQuote f.symbol f.price x s) := by
  simp only [runCommand, doQuote, checkedSymbol_of_present h f.symbol s x hn hx ho]

theorem symbolAt_applyQuote (n : Half) (price : Quad32) (x : Symbol) (s : State) (j : Nat)
    (h : Table.wf none s.quote.symbols) : symbolAt (applyQuote n price x s).quote j =
      if j = n.toNat then some (quoteSymbol s.quote (clampPrice price) x) else symbolAt s.quote j := by
  rw [← symbolAt_setSymbol s.quote n.toNat j _ h]
  rfl

/-- Settles O48: the record is recomputed at the clamped price and passed through the filter. -/
theorem quoteAppliesThePrice : Obligations.QuoteAppliesThePrice := by
  intro h f x s r hn hx ho hwf price magnitude
  have hprice : clampPrice f.price = price := clampTo_zero _ _
  let z := recomputeSymbol s.quote.largeThreshold { x with last := some price }
  obtain ⟨hkeep, hflash⟩ := quoteSymbol_flash s.quote price x
  obtain ⟨hf1, hf2, hf3, hf4⟩ := filterClass_cases s.quote.classFilter z
  obtain ⟨d, c, a, hfil⟩ := filterClass_frame s.quote.classFilter z
  obtain ⟨fl, hy⟩ : ∃ fl, quoteSymbol s.quote price x =
      { filterClass s.quote.classFilter z with flash := fl, age := 0, stale := false } := by
    obtain ⟨fl, he, -⟩ := quoteSymbol_frame s.quote price x
    exact ⟨fl, he⟩
  have hcomputed : (quoteSymbol s.quote price x).computed =
      classOf x.halted ((price : Int) - x.reference) (percentOf ((price : Int) - x.reference) x.reference)
        s.quote.largeThreshold := by rw [hy, hfil]; rfl
  have hpercent : (quoteSymbol s.quote price x).percent = percentOf ((price : Int) - x.reference) x.reference := by
    rw [hy, hfil]; rfl
  obtain ⟨hc1, hc2, hc3⟩ := classOf_cases ((price : Int) - x.reference) x.reference s.quote.largeThreshold
  refine ⟨applyQuote f.symbol f.price x s, quoteSymbol s.quote price x,
    applied_of_ok r rfl (doQuote_of_ok h f x s hn hx ho), ?_, ?_⟩
  · rw [← hprice, symbolAt_applyQuote _ _ _ _ _ hwf, if_pos rfl]
  refine ⟨by rw [hy, hfil]; rfl, by rw [hy, hfil]; rfl, fun h0 => ?_, fun h0 => ?_, fun hh => ?_, fun hh he => ?_,
    fun hh hlt => ?_, fun hh hlt => ?_, ?_, ?_, ?_, ?_, fun hl => ?_, fun l hl hne => ?_, ?_⟩
  · rw [hpercent, h0]; rfl
  · rw [hpercent, percentOf_of_ne _ _ h0]
    have hiff : ((price : Int) - x.reference < 0) = (price < x.reference) := by
      simp only [eq_iff_iff]; omega
    simp only [hiff]; rfl
  · rw [hcomputed, hh]; rfl
  · rw [hcomputed, hh]; exact hc1 (by omega)
  · rw [hcomputed, hh]; exact hc2 (by omega)
  · rw [hcomputed, hh, hc3 (by omega)]
    have hne : x.reference ≠ 0 := by omega
    simp only [hne, ne_eq, not_false_eq_true, true_and]; rfl
  · intro hle; rw [hy]; obtain ⟨e1, e2, e3⟩ := hf1 hle; exact ⟨e1.trans (by rw [hfil]), e2, e3⟩
  · intro hle he
    rw [hy] at he ⊢
    exact hf2 hle (Eq.trans (by rw [hfil]) he)
  · intro hle hne hcand
    rw [hy] at hne hcand ⊢
    rw [hfil] at hne hcand
    obtain ⟨e1, e2⟩ := hf3 hle hne hcand
    exact ⟨fun ha => ⟨(e1 ha).1.trans (by rw [hfil]), (e1 ha).2⟩, e2⟩
  · intro hle hne hcand
    rw [hy] at hne hcand ⊢
    rw [hfil] at hne hcand
    obtain ⟨e1, e2, e3⟩ := hf4 hle hne hcand
    exact ⟨e1, e2.trans (by rw [hfil]), e3⟩
  · rw [hkeep hl, hfil]; rfl
  · rw [hflash l hl hne, hfil]; rfl
  · rw [hy, hfil]
    refine ⟨rfl, rfl, rfl, rfl, rfl, rfl, rfl, rfl, fun n hne => ?_, rfl⟩
    rw [symbolAt_applyQuote _ _ _ _ _ hwf, if_neg hne]

/-! ### Batches -/

theorem batchPair_of_ok (h : Header) (f : PriceFields) (s : State) (x : Symbol) (hn : f.symbol.toNat ≤ 511)
    (hx : symbolAt s.quote f.symbol.toNat = some x) (ho : h.level ≤ x.owner) :
    batchPair h f s = applyQuote f.symbol f.price x s := by
  simp only [batchPair, checkedSymbol_of_present h f.symbol s x hn hx ho]

theorem exec_quoteBatch (h : Header) (pairs : List PriceFields) (s : State) (r : Ready s) (h1 : 1 ≤ pairs.length)
    (h20 : pairs.length ≤ 20) : exec (.quoteBatch h pairs) s = .next (batchPairs h pairs s) :=
  applied_of_ok r (by simp [Command.consistent, h1, h20]) rfl

theorem batchPair_ready (h : Header) (f : PriceFields) (s : State) (r : Ready s) : Ready (batchPair h f s) := by
  unfold batchPair
  split <;> exact r

/-- Settles O49: a batch is its first pair and then the batch of the rest. -/
theorem quoteBatchIsItsQuotesInOrder : Obligations.QuoteBatchIsItsQuotesInOrder := by
  intro h f s r
  have hone : exec (.quoteBatch h [f]) s = .next (batchPair h f s) :=
    exec_quoteBatch h [f] s r (Nat.le_refl 1) (by simp)
  refine ⟨fun x hn hx ho => ⟨applyQuote f.symbol f.price x s, ?_, applied_of_ok r rfl (doQuote_of_ok h f x s hn hx ho)⟩,
    fun e he => ?_, fun rest t h1 h19 ht => ?_⟩
  · rw [hone, batchPair_of_ok h f s x hn hx ho]
  · have hchecked : checkedSymbol h f.symbol s = .error e := by
      rcases he with ⟨hn, rfl⟩ | ⟨hn, hx, rfl⟩ | ⟨⟨x, hn, hx, ho⟩, rfl⟩
      · simp [checkedSymbol, hn]
      · exact checkedSymbol_of_absent h f.symbol s hn hx
      · simp [checkedSymbol, Nat.not_lt.2 hn, hx, ho]
    rw [hone, batchPair, hchecked]
    rfl
  · have ht' : batchPair h f s = t := by rw [hone] at ht; cases ht; rfl
    subst ht'
    rw [exec_quoteBatch h (f :: rest) s r (by simp) (by simp; omega),
      exec_quoteBatch h rest _ (batchPair_ready h f s r) h1 (by omega)]
    rfl

/-! ### REFERENCE and HALT -/

/-- The change, percent change and computed class of a symbol computed again (spec 09 R139, R140), as O50 writes them. -/
theorem recomputeSymbol_derived (large : Nat) (x : Symbol) :
    let y := recomputeSymbol large x
    y.change = changeOf x.last x.reference ∧
    (x.reference = 0 → y.percent = none) ∧
    (x.reference ≠ 0 → y.percent =
      some (if y.change < 0 then -(percentMagnitude y.change x.reference : Int) else percentMagnitude y.change x.reference)) ∧
    (x.halted = true → y.computed = .halted) ∧
    (x.halted = false → y.change = 0 → y.computed = .flat) ∧
    (x.halted = false → 0 < y.change →
      y.computed = if x.reference ≠ 0 ∧ large ≤ percentMagnitude y.change x.reference then .upLarge else .upSmall) ∧
    (x.halted = false → y.change < 0 →
      y.computed = if x.reference ≠ 0 ∧ large ≤ percentMagnitude y.change x.reference then .downLarge else .downSmall) := by
  obtain ⟨hc1, hc2, hc3⟩ := classOf_cases (changeOf x.last x.reference) x.reference large
  refine ⟨rfl, fun h0 => ?_, fun h0 => percentOf_of_ne _ _ h0, fun hh => ?_, fun hh he => ?_, fun hh hlt => ?_,
    fun hh hlt => ?_⟩
  · show percentOf _ x.reference = none
    rw [h0]; rfl
  all_goals show classOf x.halted _ _ large = _
  · rw [hh]; rfl
  · rw [hh]; exact hc1 he
  · rw [hh]; exact hc2 hlt
  · rw [hh]; exact hc3 hlt

theorem flagOf_of_le (b : Byte) (h : b.toNat ≤ 1) : flagOf b = some (decide (b = 1)) := by
  have hb : b = 0 ∨ b = 1 := by
    rcases Nat.le_one_iff_eq_zero_or_eq_one.1 h with h | h
    · exact .inl (BitVec.eq_of_toNat_eq h)
    · exact .inr (BitVec.eq_of_toNat_eq h)
  rcases hb with rfl | rfl <;> rfl

/-- Settles O50: both recompute the record; REFERENCE passes the class through the filter, HALT shows it at once. -/
theorem referenceAndHaltRecompute : Obligations.ReferenceAndHaltRecompute := by
  intro h n x s r hn hx ho hwf derived kept
  have hat : ∀ y j, symbolAt (setSymbol s.quote n.toNat y) j = if j = n.toNat then y else symbolAt s.quote j :=
    fun y j => symbolAt_setSymbol s.quote _ j y hwf
  refine ⟨fun price => ?_, fun flag hflag => ?_⟩
  · let z : Symbol := recomputeSymbol s.quote.largeThreshold { x with reference := clampPrice price }
    obtain ⟨hf1, hf2, hf3, hf4⟩ := filterClass_cases s.quote.classFilter z
    obtain ⟨d, c, a, hfil⟩ := filterClass_frame s.quote.classFilter z
    have hd := recomputeSymbol_derived s.quote.largeThreshold { x with reference := clampPrice price }
    refine ⟨{ s with quote := setSymbol s.quote n.toNat (some (filterClass s.quote.classFilter z)) },
      filterClass s.quote.classFilter z, applied_of_ok r rfl ?_, (hat _ _).trans (if_pos rfl), ?_, ?_, ?_, ?_, ?_, ?_, ?_, ?_,
      fun j hj => (hat _ _).trans (if_neg hj), rfl⟩
    · simp only [runCommand, doReference, checkedSymbol_of_present h n s x hn hx ho]; rfl
    · rw [hfil]; exact clampTo_zero _ _
    · rw [hfil]; rfl
    · rw [hfil]; exact hd
    · rw [hfil]; exact ⟨rfl, rfl, rfl, rfl, rfl, rfl, rfl, rfl⟩
    · intro hle; obtain ⟨e1, e2, e3⟩ := hf1 hle; exact ⟨e1.trans (by rw [hfil]), e2, e3⟩
    · intro hle he; exact hf2 hle (Eq.trans (by rw [hfil]) he)
    · intro hle hne hcand
      rw [hfil] at hne hcand
      obtain ⟨e1, e2⟩ := hf3 hle hne hcand
      exact ⟨fun ha => ⟨(e1 ha).1.trans (by rw [hfil]), (e1 ha).2⟩, e2⟩
    · intro hle hne hcand
      rw [hfil] at hne hcand
      obtain ⟨e1, e2, e3⟩ := hf4 hle hne hcand
      exact ⟨e1, e2.trans (by rw [hfil]), e3⟩
  · have hd := recomputeSymbol_derived s.quote.largeThreshold { x with halted := decide (flag = 1) }
    refine ⟨{ s with quote := setSymbol s.quote n.toNat (some (haltSymbol s.quote (decide (flag = 1)) x)) },
      haltSymbol s.quote (decide (flag = 1)) x, applied_of_ok r rfl ?_, (hat _ _).trans (if_pos rfl), rfl, ?_, hd,
      ⟨rfl, rfl, rfl, rfl, rfl, rfl, rfl, rfl⟩, rfl, rfl, rfl, fun j hj => (hat _ _).trans (if_neg hj), rfl⟩
    · simp only [runCommand, doHalt, checkedSymbol_of_present h n s x hn hx ho, flagOf_of_le flag hflag]
    · exact decide_eq_true_iff

/-! ### Movement table -/

theorem classOfIndex_of_le (n : Nat) (h : n ≤ 5) : ∃ c, classOfIndex n = some c ∧ classIndex c = n := by
  match n, h with
  | 0, _ => exact ⟨.upSmall, rfl, rfl⟩
  | 1, _ => exact ⟨.upLarge, rfl, rfl⟩
  | 2, _ => exact ⟨.downSmall, rfl, rfl⟩
  | 3, _ => exact ⟨.downLarge, rfl, rfl⟩
  | 4, _ => exact ⟨.flat, rfl, rfl⟩
  | 5, _ => exact ⟨.halted, rfl, rfl⟩

/-- The entry of a bank and a class (spec 09 R153). -/
theorem movementIndex_of_bank (bank : Byte) (c : MoveClass) (h : bank.toNat ≤ 1) :
    movementIndex (decide (bank = 1)) c = 6 * bank.toNat + classIndex c := by
  have hb : bank = 0 ∨ bank = 1 := by
    rcases Nat.le_one_iff_eq_zero_or_eq_one.1 h with h | h
    · exact .inl (BitVec.eq_of_toNat_eq h)
    · exact .inr (BitVec.eq_of_toNat_eq h)
  rcases hb with rfl | rfl <;> rfl

/-- Settles O51: the checks pass, and the one entry is replaced. -/
theorem movementWriteReplacesTheEntry : Obligations.MovementWriteReplacesTheEntry := by
  intro h f s r hl hbank hcls hcol harrow hwf
  obtain ⟨c, hc, hi⟩ := classOfIndex_of_le f.cls.toNat hcls
  let e : Movement := { colour := f.colour.toNat, arrow := if f.arrowPresent = 1 then some f.arrow else none,
                        flash := clampTo 0 120 f.flash.toNat }
  refine ⟨{ s with quote := { s.quote with
      movement := Table.set Movement.initial s.quote.movement (6 * f.bank.toNat + f.cls.toNat) e } },
    applied_of_ok r rfl ?_, fun i => ?_, rfl⟩
  · simp only [runCommand, doMovementWrite, Nat.not_lt.2 hl, flagOf_of_le _ hbank, hc, Nat.not_lt.2 hcol,
      flagOf_of_le _ harrow, movementIndex_of_bank _ _ hbank, hi, if_false, decide_eq_true_eq]
    rfl
  · rw [← clampTo_zero]
    exact (Table.get_set Movement.initial s.quote.movement _ i e hwf).trans (by simp only [eq_comm]; rfl)

end Sys2Proof.Machine
end

section
/-! PROOFS. The keyer's and the guard unit's commands (spec 10 section 10.8, spec 11), each at a ready state. -/

namespace Sys2Proof.Machine

open Sys2Proof

/-! ## Keyer -/

theorem doKeyWish_eq (h : Header) (w : Switch) (s : State) (hl : h.level ≤ 1) : doKeyWish h w s =
    if s.guard.state = .normal then .ok { s with keyer := aimKey { s.keyer with wish := w } w }
    else .ok { s with keyer := { s.keyer with wish := w } } := by
  by_cases hg : s.guard.state = .normal <;> simp [doKeyWish, Nat.not_lt.2 hl, isGuarded, hg]

/-- Settles O53: the guard state decides whether the wish is aimed at. -/
theorem keyCommandsSetTheWish : Obligations.KeyCommandsSetTheWish := by
  intro h s r hl
  refine ⟨fun hg => ⟨applied_of_ok r rfl ?_, applied_of_ok r rfl ?_⟩, fun hg => ⟨applied_of_ok r rfl ?_, applied_of_ok r rfl ?_⟩⟩
  · exact (doKeyWish_eq h .on s hl).trans (if_neg hg)
  · exact (doKeyWish_eq h .off s hl).trans (if_neg hg)
  · exact (doKeyWish_eq h .on s hl).trans (if_pos hg)
  · exact (doKeyWish_eq h .off s hl).trans (if_pos hg)

/-! ## Payload bytes of the guard unit's commands -/

theorem flagOf_bit (b : Bool) : flagOf (if b then 1 else 0) = some b := by cases b <;> rfl

theorem actionOf_bit (a : Action) : actionOf (if a = .slate then 1 else 0) = some a := by cases a <;> rfl

/-! ## GUARD_CONFIG -/

theorem CauseSet.has_put (c : CauseSet) (k j : Cause) (b : Bool) : (c.put k b).has j = if j = k then b else c.has j := by
  cases k <;> cases j <;> rfl

theorem membershipAfter_eq (c : CauseConfig) (present member : Bool) :
    membershipAfter c present member = (c.enabled && (present || c.latched && member)) := by
  obtain ⟨e, l, a⟩ := c
  cases e <;> cases present <;> cases l <;> rfl

/-- What the settling of a cause leaves, whichever it is: its settings and its membership, and what the guard unit does on the
change (spec 11 R169, R174, R175). -/
theorem recompute_settled (k : Cause) (c : CauseConfig) (b : Bool) (s : State) (hk : k ≠ .manual) :
    let t := recompute (markCause k b (setCauseConfig k c s))
    causeConfig t.guard k = c ∧
    (∀ j, j ≠ k → causeConfig t.guard j = causeConfig s.guard j ∧ t.guard.active.has j = s.guard.active.has j) ∧
    t.guard.active.has k = b ∧ t.guard.manual = s.guard.manual ∧ t.guard.slate = s.guard.slate ∧
    setCauseConfig k c s = { s with guard := { s.guard with
      inputLoss := t.guard.inputLoss, feedLoss := t.guard.feedLoss, intakeOverrun := t.guard.intakeOverrun } } ∧
    t.keyer.wish = s.keyer.wish ∧ t.glyphs = { s.glyphs with missing := t.glyphs.missing } ∧
    t = { s with guard := t.guard, keyer := t.keyer, glyphs := t.glyphs } := by
  obtain ⟨r, f, n, y, h, hw, -⟩ := recompute_frame (markCause k b (setCauseConfig k c s))
  have hhas := fun j => CauseSet.has_put s.guard.active k j b
  intro t
  have ht : t = _ := h
  rw [ht]
  cases k with
  | manual => exact absurd rfl hk
  | inputLoss | feedLoss | intakeOverrun =>
    refine ⟨rfl, fun j hj => ⟨?_, (hhas j).trans (if_neg hj)⟩, (hhas _).trans (if_pos rfl), rfl, rfl, rfl, hw, rfl, rfl⟩
    cases j <;> first | exact absurd rfl hj | rfl

theorem recompute_markCause_acts (k : Cause) (b : Bool) (s : State) : GuardActs s (recompute (markCause k b s)) :=
  recompute_acts s (s.guard.active.put k b)

/-- Settles O54: the fields name a cause and its settings, which are stored and settled. -/
theorem guardConfigSettlesTheCause : Obligations.GuardConfigSettlesTheCause := by
  intro h k e l a s r hl hk
  let c : CauseConfig := { enabled := e, latched := l, action := a }
  let b := membershipAfter c (conditionPresent s k) (s.guard.active.has k)
  obtain ⟨hcfg, hother, hmember, hmanual, hslate, hs1, hwish, hglyphs, hframe⟩ := recompute_settled k c b s hk
  refine ⟨recompute (markCause k b (setCauseConfig k c s)), applied_of_ok r rfl ?_, hcfg, hother,
    hmember.trans (membershipAfter_eq c _ _), recompute_state _, hmanual, hslate, ?_, hwish, hglyphs, hframe⟩
  · cases k with
    | manual => exact absurd rfl hk
    | inputLoss | feedLoss | intakeOverrun =>
      simp only [runCommand, doGuardConfig, hl, Nat.lt_irrefl, if_false, flagOf_bit, actionOf_bit]
      rfl
  · rw [← hs1]
    exact recompute_markCause_acts k b _

/-! ## SLATE_CONFIG -/

/-- What a resolution of the slate leaves of the rest of the part (spec 11 R177). -/
theorem resolveSlate_leaves (s : State) : (resolveSlate s).guard.slate = s.guard.slate ∧
    (resolveSlate s).guard.state = s.guard.state ∧ (resolveSlate s).guard.active = s.guard.active ∧
    (resolveSlate s).glyphs = { s.glyphs with missing := (resolveSlate s).glyphs.missing } ∧
    resolveSlate s = { s with guard := (resolveSlate s).guard, glyphs := (resolveSlate s).glyphs } := by
  obtain ⟨r, f, n, h⟩ := resolveSlate_frame s
  rw [h]
  exact ⟨rfl, rfl, rfl, rfl, rfl⟩

theorem slateConfigOf_bit (f : SlateFields) : slateConfigOf (decide (f.configure = 1)) f =
    if f.configure = 1 then some {
      item := f.item.toNat, top := f.top.toNat, height := clampTo 8 128 f.height.toNat, left := f.left.toNat,
      right := f.right.toNat, style := f.style.toNat } else none := by
  by_cases h : f.configure = 1 <;> simp [slateConfigOf, h]

/-- Settles O55: the configuration is stored, and resolved where the action is SLATE. -/
theorem slateConfigStoresAndResolves : Obligations.SlateConfigStoresAndResolves := by
  intro h f s r hl hc hi hst c u
  have hrun : runCommand h (.slateConfig f) s = .ok (if s.guard.state = .guarded .slate then resolveSlate u else u) := by
    simp only [runCommand, doSlateConfig, hl, Nat.lt_irrefl, if_false, flagOf_of_le _ hc, Nat.not_lt.2 hi, Nat.not_lt.2 hst,
      slateConfigOf_bit]
    rfl
  refine ⟨fun hg => applied_of_ok r rfl (hrun.trans (by rw [if_neg hg])), fun hg => ⟨resolveSlate u, applied_of_ok r rfl
    (hrun.trans (by rw [if_pos hg])), ?_⟩⟩
  obtain ⟨hslate, hstate, hactive, hglyphs, hframe⟩ := resolveSlate_leaves u
  have hres : ResolvesSlate s u.guard.slate s.glyphs.missing (resolveSlate u) := resolveSlate_resolves u
  refine ⟨hslate, fun h0 => ?_, fun i x offset length h1 hitem hbody hstyle hx hown hlen => ?_, hres, hstate, hactive, hglyphs,
    hframe⟩
  · have hnone : u.guard.slate = none := if_neg (by rw [h0]; decide)
    obtain ⟨h2, h3, -⟩ := hres.2 fun c x codes hsome => absurd (hnone.symm.trans hsome) nofun
    exact ⟨h3, h2⟩
  · have hsome : u.guard.slate = some c := if_pos h1
    obtain ⟨h2, h3, -⟩ := hres.1 c x (Memory.readRun s.text offset length) hsome
      ⟨i, offset, length, hitem, hbody, hstyle, hx, hown, hlen, rfl⟩
    obtain ⟨hlo, hhi⟩ := clampTo_bounds 1 16383
      (x.padLeft + advanceTotal s.glyphs x.font (Memory.readRun s.text offset length) + x.padRight) (by decide)
    exact ⟨h2, _, h3, rfl, rfl, hlo, hhi⟩

/-! ## GUARD_SET and GUARD_RELEASE -/

/-- What a recomputation on a new set leaves of the rest of the part (spec 11 R174, R175). -/
theorem recompute_leaves (s : State) : (recompute s).guard.active = s.guard.active ∧
    (recompute s).guard.manual = s.guard.manual ∧ (recompute s).guard.manualAction = s.guard.manualAction ∧
    (recompute s).guard.slate = s.guard.slate ∧
    (∀ k, causeConfig (recompute s).guard k = causeConfig s.guard k) ∧ (recompute s).keyer.wish = s.keyer.wish ∧
    (recompute s).glyphs = { s.glyphs with missing := (recompute s).glyphs.missing } ∧
    recompute s = { s with guard := (recompute s).guard, keyer := (recompute s).keyer, glyphs := (recompute s).glyphs } := by
  obtain ⟨r, f, n, y, h, hw, -⟩ := recompute_frame s
  rw [h]
  exact ⟨rfl, rfl, rfl, rfl, fun k => by cases k <;> rfl, hw, rfl, rfl⟩

theorem runCommand_guardSet (h : Header) (a : Action) (cut : Bool) (s : State) (hl : h.level ≤ 1) :
    runCommand h (.guardSet (if a = .slate then 1 else 0) (if cut then 1 else 0)) s = .ok (setManual a cut s) := by
  simp only [runCommand, doGuardSet, Nat.not_lt.2 hl, if_false, flagOf_bit, actionOf_bit]
  rfl

/-- Settles O56: MANUAL joins with one recomputation, and the cut flag acts last. -/
theorem guardSetJoinsManual : Obligations.GuardSetJoinsManual := by
  intro h a cut s r hl
  let v : State := { s with guard := { s.guard with manual := true, manualAction := some a } }
  let u := recompute (markCause .manual true v)
  obtain ⟨hactive, hmanual, haction, hslate, hcfg, hwish, hglyphs, hframe⟩ := recompute_leaves (markCause .manual true v)
  have hacts : GuardActs v u := recompute_markCause_acts .manual true v
  have hset : u.guard.active = { s.guard.active with manual := true } := hactive
  obtain ⟨b, hb⟩ : ∃ b, u.guard.state = .guarded b := by
    cases hs : u.guard.state with
    | guarded b => exact ⟨b, rfl⟩
    | normal =>
      have he := hacts.1.1 hs
      rw [hset] at he
      exact absurd (congrArg CauseSet.manual he) (Bool.noConfusion : true ≠ false)
  have hclear := hacts.2.1 b hb
  have htarget : s.guard.state = .normal → u.keyer.target = .off ∧ (b = .slate → u.keyer.level = 0) := by
    intro hn
    obtain ⟨-, -, -, -, -, hfade, -, hcut, -, -⟩ := hacts
    cases b with
    | clear =>
      obtain ⟨⟨hk, -⟩, -⟩ := hfade hn hb
      rw [hk]
      exact ⟨rfl, nofun⟩
    | slate =>
      obtain ⟨hk, -⟩ := hcut (by show s.guard.state ≠ _; rw [hn]; decide) hb
      rw [hk]
      exact ⟨rfl, fun _ => rfl⟩
  have halone : a = .slate → s.guard.active = .empty → b = .slate := by
    intro ha he
    cases b with
    | slate => rfl
    | clear =>
      obtain ⟨k, hk, hc⟩ := hclear.1 rfl
      rw [hset, he] at hk
      cases k with
      | manual =>
        have hm : causeConfig u.guard .manual = ⟨true, true, a⟩ := hcfg .manual
        rw [hm, ha] at hc
        cases hc
      | _ => cases hk
  refine ⟨setManual a cut s, applied_of_ok r rfl (runCommand_guardSet h a cut s hl), ?_⟩
  have hother : ∀ k, k ≠ .manual → causeConfig u.guard k = causeConfig s.guard k :=
    fun k hk => (hcfg k).trans (by cases k <;> first | exact absurd rfl hk | rfl)
  cases cut with
  | false =>
    exact ⟨hmanual, haction, hset, ⟨b, hb, hclear⟩, ⟨u, hacts, fun _ => rfl, nofun⟩, nofun,
      fun hn => ⟨(htarget hn).1, fun ha he => (htarget hn).2 (halone ha he)⟩, hwish, hslate, hother, hglyphs, hframe⟩
  | true =>
    refine ⟨hmanual, haction, hset, ⟨b, hb, hclear⟩, ⟨u, hacts, nofun, fun _ => rfl⟩, fun _ => ⟨rfl, rfl⟩,
      fun hn => ⟨rfl, fun _ _ => rfl⟩, hwish, hslate, hother, hglyphs, ?_⟩
    exact congrArg sendCut hframe

/-- Whether a cause of the set leaves at a release, as spec 11 R173 says it. -/
theorem leavesAtRelease_iff (s : State) (k : Cause) : leavesAtRelease s k = true ↔ s.guard.active.has k = true ∧
    (k = .manual ∨ k = .feedLoss ∧ conditionPresent s .feedLoss = false ∨
      k ≠ .manual ∧ (causeConfig s.guard k).latched = true ∧ conditionPresent s k = false) := by
  cases k <;> simp [leavesAtRelease]

/-- The set that a release leaves (spec 11 R173). -/
def activeAfterRelease (s : State) : CauseSet :=
  let stays (k : Cause) : Bool := s.guard.active.has k && !leavesAtRelease s k
  { inputLoss := stays .inputLoss, feedLoss := stays .feedLoss, intakeOverrun := stays .intakeOverrun, manual := stays .manual }

theorem activeAfterRelease_has (s : State) (k : Cause) :
    (activeAfterRelease s).has k = (s.guard.active.has k && !leavesAtRelease s k) := by
  cases k <;> rfl

theorem runCommand_guardRelease (h : Header) (s : State) (hl : h.level ≤ 1) :
    ((∃ k, leavesAtRelease s k = true) → runCommand h .guardRelease s =
      .ok (recompute { s with guard := { s.guard with manual := false, active := activeAfterRelease s } })) ∧
    ((∀ k, leavesAtRelease s k ≠ true) → runCommand h .guardRelease s = .error .state) := by
  have hany : allCauses.any (leavesAtRelease s) = true ↔ ∃ k, leavesAtRelease s k = true := by
    simp only [List.any_eq_true]
    exact ⟨fun ⟨k, _, hk⟩ => ⟨k, hk⟩, fun ⟨k, hk⟩ => ⟨k, by cases k <;> decide, hk⟩⟩
  refine ⟨fun hsome => ?_, fun hno => ?_⟩
  · simp only [runCommand, doGuardRelease, Nat.not_lt.2 hl, if_false, hany.2 hsome, if_true]
    rfl
  · simp only [runCommand, doGuardRelease, Nat.not_lt.2 hl, if_false]
    exact if_neg fun h => (hany.1 h).elim hno

/-- Settles O57: the causes that leave are taken out with one recomputation. -/
theorem guardReleaseTakesCausesOut : Obligations.GuardReleaseTakesCausesOut := by
  intro h s r hl leaves
  have hleaves : ∀ k, leavesAtRelease s k = true ↔ leaves k := leavesAtRelease_iff s
  refine ⟨fun hno => refused_of_error r rfl ?_, fun hsome => ?_⟩
  · exact (runCommand_guardRelease h s hl).2 fun k hk => hno k ((hleaves k).1 hk)
  · let v : State := { s with guard := { s.guard with manual := false } }
    let u := recompute { v with guard := { v.guard with active := activeAfterRelease s } }
    obtain ⟨hactive, hmanual, -, hslate, hcfg, hwish, hglyphs, hframe⟩ :=
      recompute_leaves { v with guard := { v.guard with active := activeAfterRelease s } }
    have hacts : GuardActs v u := recompute_acts v (activeAfterRelease s)
    refine ⟨u, applied_of_ok r rfl ?_, hmanual, fun k => ?_, recompute_state _, hacts, fun hn he => ?_, hwish, hslate,
      fun k => (hcfg k).trans (by cases k <;> rfl), hglyphs, hframe⟩
    · exact (runCommand_guardRelease h s hl).1 (hsome.imp fun k => (hleaves k).2)
    · rw [show u.guard.active = activeAfterRelease s from hactive, activeAfterRelease_has, ← hleaves]
      simp
    · obtain ⟨hnormal, -, -, -, -, -, -, -, hrelease, -⟩ := hacts
      have hn' := hnormal.2 he
      obtain ⟨hres, hk⟩ := hrelease hn hn'
      exact ⟨hn', hres, by rw [hk], by rw [hk]⟩

end Sys2Proof.Machine
end

section
/-! PROOFS. The report unit's QUERY (spec 12 R185, section 12.5): the refusals in order, and the reply of each object kind. -/

namespace Sys2Proof.Machine

open Sys2Proof

/-! ## The reply of an object -/

theorem byte_toNat (b : Byte) : byte b.toNat = b := BitVec.eq_of_toNat_eq (by simp [byte])

theorem flagByte_eq (b : Bool) : flagByte b = byte b.toNat := by cases b <;> rfl

theorem kindSize_eq (n : Nat) : kindSize n = [64, 1024, 512, 4, 4, 1024, 12, 64][n]? := by
  match n with
  | 0 | 1 | 2 | 3 | 4 | 5 | 6 | 7 => rfl
  | _ + 8 => rfl

theorem ite_eq_toNat_mul (b : Bool) (n : Nat) : (if b then n else 0) = b.toNat * n := by cases b <;> simp

theorem fieldSetByte_eq (f : FieldSet) : fieldSetByte f =
    byte (1 + f.price.toNat * 2 + f.arrow.toNat * 4 + f.change.toNat * 8 + f.percent.toNat * 16) := by
  simp only [fieldSetByte, ite_eq_toNat_mul]

/-- What a reply carries after its kind and index (spec 12 section 12.5). -/
def replyFields (s : State) (kind : Nat) (index : Half) : List Byte := (replyPayload s kind index).drop 3

theorem replyOf_head (kind : Nat) (index : Half) (fields : Option (List Byte)) : ∃ rest,
    replyOf kind index fields = [byte kind, byte (index.toNat / 256), byte index.toNat] ++ rest := by
  cases fields with
  | none => exact ⟨_, rfl⟩
  | some f => exact ⟨_, rfl⟩

/-- Every reply begins with its kind and index (spec 12 section 12.5). -/
theorem replyPayload_eq (s : State) (kind : Nat) (index : Half) (h : kind < 8) : replyPayload s kind index =
    [byte kind, byte (index.toNat / 256), byte index.toNat] ++ replyFields s kind index := by
  have hhead : ∃ rest, replyPayload s kind index =
      [byte kind, byte (index.toNat / 256), byte index.toNat] ++ rest := by
    match kind, h with
    | 0, _ => exact replyOf_head 0 index _
    | 1, _ => exact replyOf_head 1 index _
    | 2, _ => exact replyOf_head 2 index _
    | 3, _ => exact replyOf_head 3 index (some (laneReply (laneOf s index.toNat)))
    | 5, _ =>
      exact replyOf_head 5 index
        (some [byte (advanceOf s.glyphs index.toNat), byte (bitmapOf s.glyphs index.toNat)])
    | 6, _ => exact replyOf_head 6 index (some (movementReply (movementAt s.quote index.toNat)))
    | 7, _ => exact replyOf_head 7 index (some (colourReply (writtenColour s.palette index.toNat)))
    | 4, _ =>
      show ∃ rest, fontReply s.glyphs index = _
      unfold fontReply
      split <;> exact ⟨_, rfl⟩
  obtain ⟨rest, hr⟩ := hhead
  rw [replyFields, hr]
  rfl

theorem replyFields_of (kind : Nat) (index : Half) (fields : Option (List Byte)) :
    (replyOf kind index fields).drop 3 = flagByte fields.isSome :: fields.getD [] := by
  cases fields <;> rfl

/-- The reply of a style (spec 12 section 12.5). -/
theorem replyFields_style (s : State) (index : Half) : replyFields s 0 index =
    match if index.toNat = 0 then none else styleAt s index.toNat with
    | none => [0]
    | some x => 1 :: styleReply x := by
  refine (replyFields_of 0 index _).trans ?_
  cases (if index.toNat = 0 then none else styleAt s index.toNat) <;> rfl

theorem replyFields_item (s : State) (index : Half) : replyFields s 1 index =
    match itemAt s index.toNat with
    | none => [0]
    | some i => 1 :: itemReply i := by
  refine (replyFields_of 1 index _).trans ?_
  cases itemAt s index.toNat <;> rfl

theorem replyFields_symbol (s : State) (index : Half) : replyFields s 2 index =
    match symbolAt s.quote index.toNat with
    | none => [0]
    | some x => 1 :: symbolReply x := by
  refine (replyFields_of 2 index _).trans ?_
  cases symbolAt s.quote index.toNat <;> rfl

theorem replyFields_font (s : State) (index : Half) :
    (s.glyphs.fonts.get index.toNat = none → replyFields s 4 index = [0] ++ bytes2 s.glyphs.missing.toNat) ∧
    ∀ d, s.glyphs.fonts.get index.toNat = some d → replyFields s 4 index = [1] ++ bytes2 s.glyphs.missing.toNat ++
      bytes2 d.base ++ bytes2 d.count ++ [byte d.height, byte d.baseline] ++ bytes2 (d.defaultGlyph.getD 65535) := by
  have h : replyFields s 4 index = (fontReply s.glyphs index).drop 3 := rfl
  refine ⟨fun hf => ?_, fun d hf => ?_⟩
  · rw [h, fontReply, hf]; rfl
  · rw [h, fontReply, hf]; rfl

theorem replyFields_lane (s : State) (index : Half) : replyFields s 3 index = 1 :: laneReply (laneOf s index.toNat) :=
  replyFields_of 3 index (some (laneReply (laneOf s index.toNat)))

theorem replyFields_glyph (s : State) (index : Half) : replyFields s 5 index =
    [1, byte (advanceOf s.glyphs index.toNat), byte (bitmapOf s.glyphs index.toNat)] :=
  replyFields_of 5 index (some [byte (advanceOf s.glyphs index.toNat), byte (bitmapOf s.glyphs index.toNat)])

theorem replyFields_movement (s : State) (index : Half) :
    replyFields s 6 index = 1 :: movementReply (movementAt s.quote index.toNat) :=
  replyFields_of 6 index (some (movementReply (movementAt s.quote index.toNat)))

theorem replyFields_colour (s : State) (index : Half) :
    replyFields s 7 index = 1 :: colourReply (writtenColour s.palette index.toNat) :=
  replyFields_of 7 index (some (colourReply (writtenColour s.palette index.toNat)))

/-! ## QUERY -/

theorem runCommand_query (h : Header) (kind : Byte) (index : Half) (s : State) (size : Nat) (hr : h.route = .device)
    (hk : kindSize kind.toNat = some size) : runCommand h (.query kind index) s =
    if size ≤ index.toNat then .error .range
    else if 8 ≤ s.report.replies.length then .error .replyFull
    else .ok { s with report := { s.report with
      replies := s.report.replies ++ [{ seq := h.seq, payload := replyPayload s kind.toNat index }] } } := by
  simp only [runCommand, doQuery, hr, ne_eq, not_true_eq_false, if_false, hk]

/-- Settles O58: route, kind, index and room are checked in order, and the reply is the object's. -/
theorem queryAppendsOneReply : Obligations.QueryAppendsOneReply := by
  refine ⟨rfl, rfl, rfl, fun h kind index s r => ?_⟩
  intro n refused
  refine ⟨fun hr => ?_, fun hr h8 => ?_, fun size hs hr => ⟨fun hn => ?_, fun hn hfull => ?_, fun hn hroom => ?_⟩⟩
  · refine refused_of_error r rfl ?_
    simp only [runCommand, doQuery]
    rw [if_pos hr]
  · refine refused_of_error r rfl ?_
    have hk : kindSize kind.toNat = none := by
      rw [kindSize_eq]; exact List.getElem?_eq_none h8
    simp only [runCommand, doQuery, hr, ne_eq, not_true_eq_false, if_false, hk]
  · exact refused_of_error r rfl ((runCommand_query h kind index s size hr ((kindSize_eq _).trans hs)).trans (if_pos hn))
  · refine refused_of_error r rfl ((runCommand_query h kind index s size hr ((kindSize_eq _).trans hs)).trans ?_)
    rw [if_neg (Nat.not_le.2 hn), if_pos hfull]
  · have hkind : kind.toNat < 8 := (List.getElem?_eq_some_iff.1 hs).1
    refine ⟨replyFields s kind.toNat index, applied_of_ok r rfl
      ((runCommand_query h kind index s size hr ((kindSize_eq _).trans hs)).trans ?_), ?_⟩
    · rw [if_neg (Nat.not_le.2 hn), if_neg (Nat.not_le.2 hroom), replyPayload_eq s _ index hkind, byte_toNat]
    refine ⟨?_, ?_, ?_, ?_, ?_, ?_, ?_, ?_, ?_, ?_, ?_, ?_⟩
    · rintro rfl hx
      refine (replyFields_style s index).trans ?_
      rcases hx with hx | hx
      · rw [if_pos hx]
      · split
        · rfl
        · rename_i x hsome
          split at hsome
          · cases hsome
          · rw [hx] at hsome; cases hsome
    · rintro x rfl h0 hx
      refine (replyFields_style s index).trans ?_
      rw [if_neg h0, hx]; rfl
    · rintro rfl hi
      refine (replyFields_item s index).trans ?_
      rw [hi]
    · rintro i rfl hi
      refine (replyFields_item s index).trans ?_
      rw [hi]
      show 1 :: itemReply i = _
      unfold itemReply
      cases i.body with
      | quote symbol f => dsimp only; rw [fieldSetByte_eq]; rfl
      | _ => rfl
    · rintro rfl hx
      refine (replyFields_symbol s index).trans ?_
      rw [hx]
    · rintro x rfl hx
      refine (replyFields_symbol s index).trans ?_
      rw [hx]
      simp only [symbolReply, flagByte_eq, codePlaces]; rfl
    · rintro rfl
      intro l config
      refine (replyFields_lane s index).trans ?_
      simp only [laneReply, flagByte_eq]
      cases l.pending <;> rfl
    · rintro rfl hf
      exact (replyFields_font s index).1 hf
    · rintro d rfl hf
      exact (replyFields_font s index).2 d hf
    · rintro rfl
      exact replyFields_glyph s index
    · rintro rfl
      refine (replyFields_movement s index).trans ?_
      simp only [movementReply, flagByte_eq]; rfl
    · rintro rfl
      exact replyFields_colour s index

end Sys2Proof.Machine
end

section
/-! PROOFS. The payload layouts (spec 12 section 12.5): what is written is read back, what is read is what would be written, and
which lengths are read at all. -/

namespace Sys2Proof.Machine

open Sys2Proof

/-! ## Fields of two and four bytes -/

theorem append_toNat {m n : Nat} (a : BitVec m) (b : BitVec n) : (a ++ b).toNat = a.toNat * 2 ^ n + b.toNat := by
  rw [BitVec.toNat_append, ← Nat.shiftLeft_add_eq_or_of_lt b.isLt, Nat.shiftLeft_eq]

theorem half_toNat (a b : Byte) : (half a b).toNat = a.toNat * 256 + b.toNat := append_toNat a b

theorem quad_toNat (a b c d : Byte) :
    (quad a b c d).toNat = ((a.toNat * 256 + b.toNat) * 256 + c.toNat) * 256 + d.toNat := by
  have hab := append_toNat a b
  have habc := append_toNat (a ++ b) c
  refine (append_toNat (a ++ b ++ c) d).trans ?_
  omega

theorem byte_toNat_eq (n : Nat) : (byte n).toNat = n % 256 := by simp [byte]

@[simp] theorem half_bytes (h : Half) : half (byte (h.toNat / 256)) (byte h.toNat) = h := by
  refine BitVec.eq_of_toNat_eq ?_
  have := h.isLt
  simp only [half_toNat, byte_toNat_eq]
  omega

@[simp] theorem quad_bytes (q : Quad32) : quad (byte (q.toNat / 16777216)) (byte (q.toNat / 65536)) (byte (q.toNat / 256))
    (byte q.toNat) = q := by
  refine BitVec.eq_of_toNat_eq ?_
  have := q.isLt
  simp only [quad_toNat, byte_toNat_eq]
  omega

@[simp] theorem halfBytes_half (a b : Byte) : halfBytes (half a b) = [a, b] := by
  have ha := a.isLt
  have hb := b.isLt
  have h1 : byte ((half a b).toNat / 256) = a :=
    BitVec.eq_of_toNat_eq (by rw [byte_toNat_eq, half_toNat]; omega)
  have h2 : byte (half a b).toNat = b := BitVec.eq_of_toNat_eq (by rw [byte_toNat_eq, half_toNat]; omega)
  rw [halfBytes, bytes2, h1, h2]

@[simp] theorem quadBytes_quad (a b c d : Byte) : quadBytes (quad a b c d) = [a, b, c, d] := by
  have ha := a.isLt
  have hb := b.isLt
  have hc := c.isLt
  have hd := d.isLt
  have h1 : byte ((quad a b c d).toNat / 16777216) = a :=
    BitVec.eq_of_toNat_eq (by rw [byte_toNat_eq, quad_toNat]; omega)
  have h2 : byte ((quad a b c d).toNat / 65536) = b :=
    BitVec.eq_of_toNat_eq (by rw [byte_toNat_eq, quad_toNat]; omega)
  have h3 : byte ((quad a b c d).toNat / 256) = c :=
    BitVec.eq_of_toNat_eq (by rw [byte_toNat_eq, quad_toNat]; omega)
  have h4 : byte (quad a b c d).toNat = d := BitVec.eq_of_toNat_eq (by rw [byte_toNat_eq, quad_toNat]; omega)
  rw [quadBytes, bytes4, h1, h2, h3, h4]

theorem halfBytes_eq (h : Half) : halfBytes h = [byte (h.toNat / 256), byte h.toNat] := rfl

theorem quadBytes_eq (q : Quad32) : quadBytes q =
    [byte (q.toNat / 16777216), byte (q.toNat / 65536), byte (q.toNat / 256), byte q.toNat] := rfl

/-! ## Runs of fields -/

theorem readHalves_iff (bs : List Byte) (hs : List Half) : readHalves bs = some hs ↔ halvesBytes hs = bs := by
  constructor
  · intro h
    induction bs using readHalves.induct generalizing hs with
    | case1 => cases h; rfl
    | case2 a b t ih =>
      obtain ⟨u, hu, rfl⟩ := Option.map_eq_some_iff.1 h
      simp [halvesBytes, ih u hu]
    | case3 => cases h
  · rintro rfl
    induction hs with
    | nil => rfl
    | cons h t ih => simp [halvesBytes, halfBytes_eq, readHalves, ih]

theorem readHalves_isSome (bs : List Byte) : (readHalves bs).isSome = (bs.length % 2 == 0) := by
  induction bs using readHalves.induct with
  | case1 => rfl
  | case2 a b t ih =>
    rw [readHalves, Option.isSome_map, ih]
    exact Bool.eq_iff_iff.2 (by simp only [beq_iff_eq, List.length_cons]; omega)
  | case3 => rfl

theorem halvesBytes_length (hs : List Half) : (halvesBytes hs).length = 2 * hs.length := by
  induction hs with
  | nil => rfl
  | cons h t ih => simp [halvesBytes, halfBytes_eq, ih]; omega

theorem readColours_iff (bs : List Byte) (cs : List ColourField) : readColours bs = some cs ↔ coloursBytes cs = bs := by
  constructor
  · intro h
    induction bs using readColours.induct generalizing cs with
    | case1 => cases h; rfl
    | case2 a b c d e f t ih =>
      obtain ⟨u, hu, rfl⟩ := Option.map_eq_some_iff.1 h
      simp [coloursBytes, ih u hu]
    | case3 bs h1 h2 => rw [readColours] at h <;> simp_all
  · rintro rfl
    induction cs with
    | nil => rfl
    | cons c t ih => simp [coloursBytes, halfBytes_eq, readColours, ih]

theorem coloursBytes_length (cs : List ColourField) : (coloursBytes cs).length = 6 * cs.length := by
  induction cs with
  | nil => rfl
  | cons c t ih => simp [coloursBytes, halfBytes_eq, ih]; omega

theorem readPairs_iff (bs : List Byte) (ps : List PriceFields) : readPairs bs = some ps ↔ pairsBytes ps = bs := by
  constructor
  · intro h
    induction bs using readPairs.induct generalizing ps with
    | case1 => cases h; rfl
    | case2 a b c d e f t ih =>
      obtain ⟨u, hu, rfl⟩ := Option.map_eq_some_iff.1 h
      simp [pairsBytes, ih u hu]
    | case3 bs h1 h2 => rw [readPairs] at h <;> simp_all
  · rintro rfl
    induction ps with
    | nil => rfl
    | cons p t ih => simp [pairsBytes, halfBytes_eq, quadBytes_eq, readPairs, ih]

theorem pairsBytes_length (ps : List PriceFields) : (pairsBytes ps).length = 6 * ps.length := by
  induction ps with
  | nil => rfl
  | cons p t ih => simp [pairsBytes, halfBytes_eq, quadBytes_eq, ih]; omega

theorem readRows_iff (n : Nat) (bs : List Byte) (rows : List (List Byte)) : readRows n bs = some rows ↔
    rows.length = n ∧ (∀ r ∈ rows, r.length = 32) ∧ rowsBytes rows = bs := by
  induction n generalizing bs rows with
  | zero =>
    cases bs with
    | nil => cases rows <;> simp [readRows, rowsBytes]
    | cons b bs => cases rows <;> simp [readRows, rowsBytes]
  | succ n ih =>
    unfold readRows
    cases rows with
    | nil => split <;> simp
    | cons r rows =>
      split
      · rename_i hlt
        refine ⟨nofun, fun ⟨_, hr, hb⟩ => ?_⟩
        have h32 := hr r List.mem_cons_self
        rw [← hb] at hlt
        simp only [rowsBytes, List.length_append, h32] at hlt
        omega
      · rename_i hlt
        rw [Option.map_eq_some_iff]
        constructor
        · rintro ⟨u, hu, he⟩
          cases he
          obtain ⟨h1, h2, h3⟩ := (ih _ _).1 hu
          refine ⟨by simp [h1], fun r hr => ?_, by simp [rowsBytes, h3]⟩
          rcases List.mem_cons.1 hr with rfl | hr
          · simp; omega
          · exact h2 r hr
        · rintro ⟨h1, h2, h3⟩
          have h32 : r.length = 32 := h2 r List.mem_cons_self
          subst h3
          have htake : (rowsBytes (r :: rows)).take 32 = r := by rw [rowsBytes, ← h32, List.take_left]
          have hdrop : (rowsBytes (r :: rows)).drop 32 = rowsBytes rows := by rw [rowsBytes, ← h32, List.drop_left]
          rw [htake, hdrop]
          exact ⟨rows, (ih _ _).2 ⟨by simpa using h1, fun k hk => h2 k (List.mem_cons_of_mem _ hk), rfl⟩, rfl⟩

theorem readRows_isSome (n : Nat) (bs : List Byte) : (readRows n bs).isSome = (bs.length == 32 * n) := by
  induction n generalizing bs with
  | zero => cases bs <;> rfl
  | succ n ih =>
    unfold readRows
    split
    · rename_i h
      have : bs.length ≠ 32 * (n + 1) := by omega
      simp [this]
    · rename_i h
      rw [Option.isSome_map, ih, List.length_drop]
      exact Bool.eq_iff_iff.2 (by simp only [beq_iff_eq]; omega)

theorem readColours_isSome (bs : List Byte) : (readColours bs).isSome = (bs.length % 6 == 0) := by
  induction bs using readColours.induct with
  | case1 => rfl
  | case2 a b c d e f t ih =>
    rw [readColours, Option.isSome_map, ih]
    exact Bool.eq_iff_iff.2 (by simp only [beq_iff_eq, List.length_cons]; omega)
  | case3 bs h1 h2 =>
    match bs, h1, h2 with
    | [], h1, _ => exact absurd rfl h1
    | [_], _, _ | [_, _], _, _ | [_, _, _], _, _ | [_, _, _, _], _, _ | [_, _, _, _, _], _, _ => rfl
    | a :: b :: c :: d :: e :: f :: t, _, h2 => exact absurd rfl (h2 a b c d e f t)

theorem readPairs_isSome (bs : List Byte) : (readPairs bs).isSome = (bs.length % 6 == 0) := by
  induction bs using readPairs.induct with
  | case1 => rfl
  | case2 a b c d e f t ih =>
    rw [readPairs, Option.isSome_map, ih]
    exact Bool.eq_iff_iff.2 (by simp only [beq_iff_eq, List.length_cons]; omega)
  | case3 bs h1 h2 =>
    match bs, h1, h2 with
    | [], h1, _ => exact absurd rfl h1
    | [_], _, _ | [_, _], _, _ | [_, _, _], _, _ | [_, _, _, _], _, _ | [_, _, _, _, _], _, _ => rfl
    | a :: b :: c :: d :: e :: f :: t, _, h2 => exact absurd rfl (h2 a b c d e f t)

/-! ## Optional settings -/

theorem takeByte_iff (present : Bool) (bs rest : List Byte) (b : Option Byte) :
    takeByte present bs = some (b, rest) ↔ b.isSome = present ∧ optByte b ++ rest = bs := by
  cases present <;> cases b <;> cases bs <;> simp [takeByte, optByte, eq_comm]

theorem takeHalf_iff (present : Bool) (bs rest : List Byte) (h : Option Half) :
    takeHalf present bs = some (h, rest) ↔ h.isSome = present ∧ optHalf h ++ rest = bs := by
  cases present with
  | false => cases h <;> simp [takeHalf, optHalf, eq_comm]
  | true =>
    match bs with
    | [] => cases h <;> simp [takeHalf, optHalf, halfBytes_eq]
    | [_] => cases h <;> simp [takeHalf, optHalf, halfBytes_eq]
    | a :: b :: t =>
      cases h with
      | none => simp [takeHalf]
      | some h =>
        simp only [takeHalf, optHalf, if_true, Option.some.injEq, Prod.mk.injEq, Option.isSome_some, true_and]
        constructor
        · rintro ⟨rfl, rfl⟩; simp
        · intro he
          simp only [halfBytes_eq, List.cons_append, List.nil_append, List.cons.injEq] at he
          obtain ⟨rfl, rfl, rfl⟩ := he
          exact ⟨half_bytes h, rfl⟩

/-- A reader that takes an optional byte and then `n` bytes exactly. -/
theorem takeByte_bind_isSome {β : Type} (present : Bool) (bs : List Byte) (n : Nat)
    (k : Option Byte × List Byte → Option β) (hk : ∀ x r, (k (x, r)).isSome = (r.length == n)) :
    ((takeByte present bs).bind k).isSome = (bs.length == present.toNat + n) := by
  cases present with
  | false => simpa [takeByte] using hk none bs
  | true =>
    cases bs with
    | nil => simp [takeByte]; omega
    | cons b bs =>
      refine (hk (some b) bs).trans (Bool.eq_iff_iff.2 ?_)
      simp only [beq_iff_eq, List.length_cons, Bool.toNat_true]; omega

/-- A reader that takes an optional field of two bytes and then `n` bytes exactly. -/
theorem takeHalf_bind_isSome {β : Type} (present : Bool) (bs : List Byte) (n : Nat)
    (k : Option Half × List Byte → Option β) (hk : ∀ x r, (k (x, r)).isSome = (r.length == n)) :
    ((takeHalf present bs).bind k).isSome = (bs.length == 2 * present.toNat + n) := by
  cases present with
  | false => simpa [takeHalf] using hk none bs
  | true =>
    match bs with
    | [] => simp [takeHalf]; omega
    | [_] => simp [takeHalf]; omega
    | a :: b :: t =>
      refine (hk (some (half a b)) t).trans (Bool.eq_iff_iff.2 ?_)
      simp only [beq_iff_eq, List.length_cons, Bool.toNat_true]; omega

/-- The bits of a presence set are the presences (spec 12 section 12.5). -/
theorem presenceSet_bits : ∀ b0 b1 b2 b3 b4 b5 b6 b7 : Bool,
    let p : Byte := byte ((if b0 then 1 else 0) + (if b1 then 2 else 0) + (if b2 then 4 else 0) + (if b3 then 8 else 0) +
      (if b4 then 16 else 0) + (if b5 then 32 else 0) + (if b6 then 64 else 0) + (if b7 then 128 else 0))
    (p.getLsbD 0 = b0 ∧ p.getLsbD 1 = b1 ∧ p.getLsbD 2 = b2 ∧ p.getLsbD 3 = b3) ∧
    p.getLsbD 4 = b4 ∧ p.getLsbD 5 = b5 ∧ p.getLsbD 6 = b6 ∧ p.getLsbD 7 = b7 := by
  decide

/-- A presence set is determined by its bits. -/
theorem byte_eq_of_bits (p q : Byte) (h : (p.getLsbD 0 = q.getLsbD 0 ∧ p.getLsbD 1 = q.getLsbD 1 ∧
      p.getLsbD 2 = q.getLsbD 2 ∧ p.getLsbD 3 = q.getLsbD 3) ∧ p.getLsbD 4 = q.getLsbD 4 ∧ p.getLsbD 5 = q.getLsbD 5 ∧
      p.getLsbD 6 = q.getLsbD 6 ∧ p.getLsbD 7 = q.getLsbD 7) : p = q := by
  obtain ⟨⟨h0, h1, h2, h3⟩, h4, h5, h6, h7⟩ := h
  refine BitVec.eq_of_getLsbD_eq fun i hi => ?_
  match i, hi with
  | 0, _ => exact h0
  | 1, _ => exact h1
  | 2, _ => exact h2
  | 3, _ => exact h3
  | 4, _ => exact h4
  | 5, _ => exact h5
  | 6, _ => exact h6
  | 7, _ => exact h7

/-! ## The readers -/

/-- A reader of a command code: what it reads is the one payload of its command, whose counts are in range, and it reads
exactly the payloads of a length consistent with the code. -/
structure ReaderSound (code : Byte) (reader : List Byte → Option Command) : Prop where
  spells : ∀ bs c, reader bs = some c → Command.code c = code ∧ Command.payload c = bs ∧ Command.consistent c = true
  length : ∀ bs, lengthConsistent code bs = some (reader bs).isSome

theorem keepConsistent_iff (c d : Command) : keepConsistent c = some d ↔ c = d ∧ Command.consistent c = true := by
  unfold keepConsistent
  split <;> simp_all

theorem keepConsistent_isSome (c : Command) : (keepConsistent c).isSome = Command.consistent c := by
  unfold keepConsistent
  split <;> simp_all

theorem deviceReader_sound : ReaderSound 0x02 readDevice where
  spells bs c h := by
    cases bs with
    | nil => cases h
    | cons p r0 =>
      simp only [readDevice, Option.bind_eq_some_iff, Prod.exists, takeByte_iff, takeHalf_iff, Option.ite_none_right_eq_some,
        List.isEmpty_iff] at h
      obtain ⟨g, r1, ⟨h0, rfl⟩, l, r2, ⟨h1, rfl⟩, cl, r3, ⟨h2, rfl⟩, la, r4, ⟨h3, rfl⟩, st, r5, ⟨h4, rfl⟩, fe, r6, ⟨h5, rfl⟩,
        k, r7, ⟨h6, rfl⟩, gu, r8, ⟨h7, rfl⟩, rfl, hc⟩ := h
      cases hc
      refine ⟨rfl, ?_, rfl⟩
      have hp : presenceSet ⟨g, l, cl, la, st, fe, k, gu⟩ = p := byte_eq_of_bits _ _ (by
        rw [← h0, ← h1, ← h2, ← h3, ← h4, ← h5, ← h6, ← h7]
        exact presenceSet_bits _ _ _ _ _ _ _ _)
      simp [Command.payload, hp]
  length bs := by
    cases bs with
    | nil => rfl
    | cons p r0 =>
      show some (r0.length == settingsLength p) = some _
      congr 1
      simp only [readDevice]
      have hend : ∀ (x : Option Byte) (r : List Byte) (c : Option Byte → Command),
          (if r.isEmpty then some (c x) else none).isSome = (r.length == 0) := by
        intro x r c; cases r <;> rfl
      rw [takeByte_bind_isSome _ _ _ _ fun g r1 => takeByte_bind_isSome _ _ _ _ fun l r2 => takeByte_bind_isSome _ _ _ _
        fun cl r3 => takeHalf_bind_isSome _ _ _ _ fun la r4 => takeHalf_bind_isSome _ _ _ _ fun st r5 =>
        takeHalf_bind_isSome _ _ _ _ fun fe r6 => takeByte_bind_isSome _ _ _ _ fun k r7 => takeByte_bind_isSome _ _ 0 _
        fun gu r8 => hend gu r8 fun gu => .deviceConfig ⟨g, l, cl, la, st, fe, k, gu⟩]
      refine Bool.eq_iff_iff.2 ?_
      simp only [beq_iff_eq, settingsLength]
      omega

/-- A reader of a payload of one length. -/
theorem ReaderSound.fixed {code : Byte} {reader : List Byte → Option Command} (n : Nat) (h02 : code ≠ 0x02)
    (h22 : code ≠ 0x22) (hn : fixedLengths.lookup code = some n)
    (hspells : ∀ bs c, reader bs = some c →
      bs.length = n ∧ Command.code c = code ∧ Command.payload c = bs ∧ Command.consistent c = true)
    (hreads : ∀ bs, bs.length = n → (reader bs).isSome = true) : ReaderSound code reader where
  spells bs c h := (hspells bs c h).2
  length bs := by
    have hlen : lengthConsistent code bs = some (bs.length == n) := by
      simp only [lengthConsistent, if_neg h02, if_neg h22, hn]
    rw [hlen]
    congr 1
    by_cases hb : bs.length = n
    · rw [hreads bs hb]; simpa using hb
    · cases hr : reader bs with
      | none => simpa using hb
      | some c => exact absurd (hspells bs c hr).1 hb

/-- A reader of a payload that carries a count. -/
theorem ReaderSound.counted {code : Byte} {reader : List Byte → Option Command} (l : CountedLength) (h02 : code ≠ 0x02)
    (h22 : code ≠ 0x22) (hn : fixedLengths.lookup code = none) (hl : countedLengths.lookup code = some l)
    (hspells : ∀ bs c, reader bs = some c →
      Command.code c = code ∧ Command.payload c = bs ∧ Command.consistent c = true)
    (hshort : ∀ bs, bs[l.place]? = none → reader bs = none)
    (hreads : ∀ bs n, bs[l.place]? = some n → ((reader bs).isSome = true ↔
      l.least ≤ n.toNat ∧ n.toNat ≤ l.most ∧ bs.length = l.head + l.each * n.toNat)) : ReaderSound code reader where
  spells := hspells
  length bs := by
    simp only [lengthConsistent, if_neg h02, if_neg h22, hn, hl, Option.map_some, Option.some.injEq]
    cases hb : bs[l.place]? with
    | none => rw [hshort bs hb]; rfl
    | some n => exact Bool.eq_iff_iff.2 (decide_eq_true_iff.trans (hreads bs n hb).symm)

/-- What is read of a run behind its count: the run of the count's elements, where the count lies in its range. -/
theorem readRun_bind_iff {α : Type} {read : List Byte → Option (List α)} {write : List α → List Byte} {each : Nat}
    {make : List α → Command} {least most : Nat} (hread : ∀ bs xs, read bs = some xs ↔ write xs = bs)
    (hsome : ∀ bs, (read bs).isSome = (bs.length % each == 0)) (hlen : ∀ xs, (write xs).length = each * xs.length)
    (heach : 0 < each) (hmake : ∀ xs, Command.consistent (make xs) = decide (least ≤ xs.length ∧ xs.length ≤ most)) (n : Nat)
    (t : List Byte) :
    (∀ c, ((read t).bind fun xs => if xs.length = n then keepConsistent (make xs) else none) = some c ↔
      ∃ xs, write xs = t ∧ xs.length = n ∧ make xs = c ∧ Command.consistent c = true) ∧
    (((read t).bind fun xs => if xs.length = n then keepConsistent (make xs) else none).isSome = true ↔
      least ≤ n ∧ n ≤ most ∧ t.length = each * n) := by
  have hiff : ∀ c, ((read t).bind fun xs => if xs.length = n then keepConsistent (make xs) else none) = some c ↔
      ∃ xs, write xs = t ∧ xs.length = n ∧ make xs = c ∧ Command.consistent c = true := by
    intro c
    simp only [Option.bind_eq_some_iff, hread, Option.ite_none_right_eq_some, keepConsistent_iff]
    constructor
    · rintro ⟨xs, h1, h2, rfl, h4⟩; exact ⟨xs, h1, h2, rfl, h4⟩
    · rintro ⟨xs, h1, h2, rfl, h4⟩; exact ⟨xs, h1, h2, rfl, h4⟩
  refine ⟨hiff, ?_⟩
  simp only [Option.isSome_iff_exists, hiff]
  constructor
  · rintro ⟨c, xs, rfl, rfl, rfl, hc⟩
    rw [hmake, decide_eq_true_iff] at hc
    exact ⟨hc.1, hc.2, hlen xs⟩
  · rintro ⟨h1, h2, h3⟩
    have hs : (read t).isSome = true := by rw [hsome, h3]; simp
    obtain ⟨xs, hxs⟩ := Option.isSome_iff_exists.1 hs
    have hw := (hread t xs).1 hxs
    have hn : xs.length = n := by
      have := hlen xs
      rw [hw, h3] at this
      exact (Nat.eq_of_mul_eq_mul_left heach this).symm
    exact ⟨_, xs, hw, hn, rfl, by rw [hmake, hn]; exact decide_eq_true ⟨h1, h2⟩⟩

theorem byte_eq_of_toNat {n : Nat} {b : Byte} (h : n = b.toNat) : byte n = b := by
  rw [h]; simp [byte]

theorem resetReader_sound : ReaderSound 0x01 readReset :=
  .fixed 1 (by decide) (by decide) rfl
    (fun bs c h => by
      unfold readReset at h
      split at h <;> cases h
      exact ⟨rfl, rfl, by simp [Command.payload], rfl⟩)
    (fun bs h => match bs, h with
      | [_], _ => rfl)

theorem fontDefineReader_sound : ReaderSound 0x11 readFontDefine :=
  .fixed 9 (by decide) (by decide) rfl
    (fun bs c h => by
      unfold readFontDefine at h
      split at h <;> cases h
      exact ⟨rfl, rfl, by simp [Command.payload], rfl⟩)
    (fun bs h => match bs, h with
      | [_, _, _, _, _, _, _, _, _], _ => rfl)

theorem fontClearReader_sound : ReaderSound 0x12 readFontClear :=
  .fixed 1 (by decide) (by decide) rfl
    (fun bs c h => by
      unfold readFontClear at h
      split at h <;> cases h
      exact ⟨rfl, rfl, by simp [Command.payload], rfl⟩)
    (fun bs h => match bs, h with
      | [_], _ => rfl)

theorem metricsReader_sound : ReaderSound 0x13 readMetrics :=
  .fixed 5 (by decide) (by decide) rfl
    (fun bs c h => by
      unfold readMetrics at h
      split at h <;> cases h
      exact ⟨rfl, rfl, by simp [Command.payload], rfl⟩)
    (fun bs h => match bs, h with
      | [_, _, _, _, _], _ => rfl)

theorem styleWriteReader_sound : ReaderSound 0x20 readStyleWrite :=
  .fixed 11 (by decide) (by decide) rfl
    (fun bs c h => by
      unfold readStyleWrite at h
      split at h <;> cases h
      exact ⟨rfl, rfl, by simp [Command.payload], rfl⟩)
    (fun bs h => match bs, h with
      | [_, _, _, _, _, _, _, _, _, _, _], _ => rfl)

theorem styleDropReader_sound : ReaderSound 0x21 readStyleDrop :=
  .fixed 1 (by decide) (by decide) rfl
    (fun bs c h => by
      unfold readStyleDrop at h
      split at h <;> cases h
      exact ⟨rfl, rfl, by simp [Command.payload], rfl⟩)
    (fun bs h => match bs, h with
      | [_], _ => rfl)

theorem itemWriteReader_sound : ReaderSound 0x30 readItemWrite :=
  .fixed 13 (by decide) (by decide) rfl
    (fun bs c h => by
      unfold readItemWrite at h
      split at h <;> cases h
      exact ⟨rfl, rfl, by simp [Command.payload], rfl⟩)
    (fun bs h => match bs, h with
      | [_, _, _, _, _, _, _, _, _, _, _, _, _], _ => rfl)

theorem itemDropReader_sound : ReaderSound 0x31 readItemDrop :=
  .fixed 2 (by decide) (by decide) rfl
    (fun bs c h => by
      unfold readItemDrop at h
      split at h <;> cases h
      exact ⟨rfl, rfl, by simp [Command.payload], rfl⟩)
    (fun bs h => match bs, h with
      | [_, _], _ => rfl)

theorem laneConfigReader_sound : ReaderSound 0x40 readLaneConfig :=
  .fixed 13 (by decide) (by decide) rfl
    (fun bs c h => by
      unfold readLaneConfig at h
      split at h <;> cases h
      exact ⟨rfl, rfl, by simp [Command.payload], rfl⟩)
    (fun bs h => match bs, h with
      | [_, _, _, _, _, _, _, _, _, _, _, _, _], _ => rfl)

theorem laneStartReader_sound : ReaderSound 0x41 readLaneStart :=
  .fixed 3 (by decide) (by decide) rfl
    (fun bs c h => by
      unfold readLaneStart at h
      split at h <;> cases h
      exact ⟨rfl, rfl, by simp [Command.payload], rfl⟩)
    (fun bs h => match bs, h with
      | [_, _, _], _ => rfl)

theorem laneStopReader_sound : ReaderSound 0x42 readLaneStop :=
  .fixed 2 (by decide) (by decide) rfl
    (fun bs c h => by
      unfold readLaneStop at h
      split at h <;> cases h
      exact ⟨rfl, rfl, by simp [Command.payload], rfl⟩)
    (fun bs h => match bs, h with
      | [_, _], _ => rfl)

theorem laneSpeedReader_sound : ReaderSound 0x43 readLaneSpeed :=
  .fixed 5 (by decide) (by decide) rfl
    (fun bs c h => by
      unfold readLaneSpeed at h
      split at h <;> cases h
      exact ⟨rfl, rfl, by simp [Command.payload], rfl⟩)
    (fun bs h => match bs, h with
      | [_, _, _, _, _], _ => rfl)

theorem interjectCancelReader_sound : ReaderSound 0x45 readInterjectCancel :=
  .fixed 1 (by decide) (by decide) rfl
    (fun bs c h => by
      unfold readInterjectCancel at h
      split at h <;> cases h
      exact ⟨rfl, rfl, by simp [Command.payload], rfl⟩)
    (fun bs h => match bs, h with
      | [_], _ => rfl)

theorem symbolDefineReader_sound : ReaderSound 0x50 readSymbolDefine :=
  .fixed 18 (by decide) (by decide) rfl
    (fun bs c h => by
      unfold readSymbolDefine at h
      split at h <;> cases h
      exact ⟨rfl, rfl, by simp [Command.payload], rfl⟩)
    (fun bs h => match bs, h with
      | [_, _, _, _, _, _, _, _, _, _, _, _, _, _, _, _, _, _], _ => rfl)

theorem symbolDropReader_sound : ReaderSound 0x51 readSymbolDrop :=
  .fixed 2 (by decide) (by decide) rfl
    (fun bs c h => by
      unfold readSymbolDrop at h
      split at h <;> cases h
      exact ⟨rfl, rfl, by simp [Command.payload], rfl⟩)
    (fun bs h => match bs, h with
      | [_, _], _ => rfl)

theorem haltReader_sound : ReaderSound 0x55 readHalt :=
  .fixed 3 (by decide) (by decide) rfl
    (fun bs c h => by
      unfold readHalt at h
      split at h <;> cases h
      exact ⟨rfl, rfl, by simp [Command.payload], rfl⟩)
    (fun bs h => match bs, h with
      | [_, _, _], _ => rfl)

theorem movementReader_sound : ReaderSound 0x56 readMovement :=
  .fixed 6 (by decide) (by decide) rfl
    (fun bs c h => by
      unfold readMovement at h
      split at h <;> cases h
      exact ⟨rfl, rfl, by simp [Command.payload], rfl⟩)
    (fun bs h => match bs, h with
      | [_, _, _, _, _, _], _ => rfl)

theorem guardConfigReader_sound : ReaderSound 0x70 readGuardConfig :=
  .fixed 4 (by decide) (by decide) rfl
    (fun bs c h => by
      unfold readGuardConfig at h
      split at h <;> cases h
      exact ⟨rfl, rfl, by simp [Command.payload], rfl⟩)
    (fun bs h => match bs, h with
      | [_, _, _, _], _ => rfl)

theorem slateConfigReader_sound : ReaderSound 0x71 readSlateConfig :=
  .fixed 11 (by decide) (by decide) rfl
    (fun bs c h => by
      unfold readSlateConfig at h
      split at h <;> cases h
      exact ⟨rfl, rfl, by simp [Command.payload], rfl⟩)
    (fun bs h => match bs, h with
      | [_, _, _, _, _, _, _, _, _, _, _], _ => rfl)

theorem guardSetReader_sound : ReaderSound 0x72 readGuardSet :=
  .fixed 2 (by decide) (by decide) rfl
    (fun bs c h => by
      unfold readGuardSet at h
      split at h <;> cases h
      exact ⟨rfl, rfl, by simp [Command.payload], rfl⟩)
    (fun bs h => match bs, h with
      | [_, _], _ => rfl)

theorem queryReader_sound : ReaderSound 0x7F readQuery :=
  .fixed 3 (by decide) (by decide) rfl
    (fun bs c h => by
      unfold readQuery at h
      split at h <;> cases h
      exact ⟨rfl, rfl, by simp [Command.payload], rfl⟩)
    (fun bs h => match bs, h with
      | [_, _, _], _ => rfl)


theorem nothingReader_sound {code : Byte} {c : Command} (h02 : code ≠ 0x02) (h22 : code ≠ 0x22)
    (hn : fixedLengths.lookup code = some 0) (hcode : Command.code c = code) (hpay : Command.payload c = [])
    (hc : Command.consistent c = true) : ReaderSound code (readNothing c) :=
  .fixed 0 h02 h22 hn
    (fun bs d h => by
      unfold readNothing at h
      split at h <;> cases h
      exact ⟨rfl, hcode, hpay, hc⟩)
    (fun bs h => match bs, h with
      | [], _ => rfl)

theorem priceReader_sound {code : Byte} {make : PriceFields → Command} (h02 : code ≠ 0x02) (h22 : code ≠ 0x22)
    (hn : fixedLengths.lookup code = some 6) (hcode : ∀ f, Command.code (make f) = code)
    (hpay : ∀ f, Command.payload (make f) = halfBytes f.symbol ++ quadBytes f.price)
    (hc : ∀ f, Command.consistent (make f) = true) : ReaderSound code (readPrice make) :=
  .fixed 6 h02 h22 hn
    (fun bs d h => by
      unfold readPrice at h
      split at h <;> cases h
      exact ⟨rfl, hcode _, by simp [hpay], hc _⟩)
    (fun bs h => match bs, h with
      | [_, _, _, _, _, _], _ => rfl)

theorem itemRunReader_sound {code : Byte} {make : Byte → List Half → Command} (least most : Nat) (h02 : code ≠ 0x02)
    (h22 : code ≠ 0x22) (hn : fixedLengths.lookup code = none)
    (hl : countedLengths.lookup code = some ⟨1, 2, 2, least, most⟩) (hcode : ∀ m is, Command.code (make m is) = code)
    (hpay : ∀ m is, Command.payload (make m is) = [m, byte is.length] ++ halvesBytes is)
    (hc : ∀ m is, Command.consistent (make m is) = decide (least ≤ is.length ∧ is.length ≤ most)) :
    ReaderSound code (readItemRun make) := by
  have run := fun m n t => readRun_bind_iff (make := make m) readHalves_iff readHalves_isSome halvesBytes_length (by decide)
    (hc m) n t
  refine .counted _ h02 h22 hn hl (fun bs c h => ?_) (fun bs h => ?_) fun bs n h => ?_
  · match bs, h with
    | m :: n :: t, h =>
      obtain ⟨is, hw, hlen, rfl, hcons⟩ := ((run m n.toNat t).1 c).1 h
      exact ⟨hcode m is, by rw [hpay, hw, byte_eq_of_toNat hlen]; rfl, hcons⟩
  · match bs, h with
    | [], _ | [_], _ => rfl
  · match bs, h with
    | m :: _ :: t, rfl =>
      refine (run m n.toNat t).2.trans ?_
      simp only [List.length_cons]
      omega

theorem paletteReader_sound : ReaderSound 0x10 readPalette := by
  have run := fun m n t => readRun_bind_iff (make := Command.paletteWrite m) (least := 1) (most := 32) readColours_iff
    readColours_isSome coloursBytes_length (by decide) (fun _ => rfl) n t
  refine .counted _ (by decide) (by decide) rfl rfl (fun bs c h => ?_) (fun bs h => ?_) fun bs n h => ?_
  · match bs, h with
    | m :: n :: t, h =>
      obtain ⟨cs, hw, hlen, rfl, hcons⟩ := ((run m n.toNat t).1 c).1 h
      exact ⟨rfl, by simp [Command.payload, hw, byte_eq_of_toNat hlen], hcons⟩
  · match bs, h with
    | [], _ | [_], _ => rfl
  · match bs, h with
    | m :: _ :: t, rfl =>
      refine (run m n.toNat t).2.trans ?_
      simp only [List.length_cons]
      omega

theorem codeMapReader_sound : ReaderSound 0x15 readCodeMap := by
  have run := fun f m n t => readRun_bind_iff (make := fun es => Command.codeMapWrite ⟨f, m, es⟩) (least := 1) (most := 112)
    readHalves_iff readHalves_isSome halvesBytes_length (by decide) (fun _ => rfl) n t
  refine .counted _ (by decide) (by decide) rfl rfl (fun bs c h => ?_) (fun bs h => ?_) fun bs n h => ?_
  · match bs, h with
    | f :: m :: n :: t, h =>
      obtain ⟨cs, hw, hlen, rfl, hcons⟩ := ((run f m n.toNat t).1 c).1 h
      exact ⟨rfl, by simp [Command.payload, hw, byte_eq_of_toNat hlen], hcons⟩
  · match bs, h with
    | [], _ | [_], _ | [_, _], _ => rfl
  · match bs, h with
    | f :: m :: _ :: t, rfl =>
      refine (run f m n.toNat t).2.trans ?_
      simp only [List.length_cons]
      omega

theorem quoteBatchReader_sound : ReaderSound 0x53 readQuoteBatch := by
  have run := fun n t => readRun_bind_iff (make := Command.quoteBatch) (least := 1) (most := 20) readPairs_iff
    readPairs_isSome pairsBytes_length (by decide) (fun _ => rfl) n t
  refine .counted _ (by decide) (by decide) rfl rfl (fun bs c h => ?_) (fun bs h => ?_) fun bs n h => ?_
  · match bs, h with
    | n :: t, h =>
      obtain ⟨cs, hw, hlen, rfl, hcons⟩ := ((run n.toNat t).1 c).1 h
      exact ⟨rfl, by simp [Command.payload, hw, byte_eq_of_toNat hlen], hcons⟩
  · match bs, h with
    | [], _ => rfl
  · match bs, h with
    | _ :: t, rfl =>
      refine (run n.toNat t).2.trans ?_
      simp only [List.length_cons]
      omega

theorem glyphRowsReader_sound : ReaderSound 0x14 readGlyphRows := by
  have hread : ∀ f g1 g0 first n t c, readGlyphRows (f :: g1 :: g0 :: first :: n :: t) = some c ↔
      ∃ rows, readRows n.toNat t = some rows ∧ Command.glyphRows ⟨f, half g1 g0, first, rows⟩ = c ∧
        Command.consistent c = true := by
    intro f g1 g0 first n t c
    simp only [readGlyphRows, Option.bind_eq_some_iff, keepConsistent_iff]
    constructor
    · rintro ⟨rows, h1, rfl, h3⟩; exact ⟨rows, h1, rfl, h3⟩
    · rintro ⟨rows, h1, rfl, h3⟩; exact ⟨rows, h1, rfl, h3⟩
  refine .counted _ (by decide) (by decide) rfl rfl (fun bs c h => ?_) (fun bs h => ?_) fun bs n h => ?_
  · match bs, h with
    | f :: g1 :: g0 :: first :: n :: t, h =>
      obtain ⟨rows, hr, rfl, hcons⟩ := (hread f g1 g0 first n t c).1 h
      obtain ⟨hlen, -, hw⟩ := (readRows_iff _ _ _).1 hr
      exact ⟨rfl, by simp [Command.payload, hw, byte_eq_of_toNat hlen], hcons⟩
  · match bs, h with
    | [], _ | [_], _ | [_, _], _ | [_, _, _], _ | [_, _, _, _], _ => rfl
  · match bs, h with
    | f :: g1 :: g0 :: first :: _ :: t, rfl =>
      simp only [Option.isSome_iff_exists, hread, List.length_cons]
      constructor
      · rintro ⟨c, rows, hr, rfl, hcons⟩
        obtain ⟨hlen, -, -⟩ := (readRows_iff _ _ _).1 hr
        have ht := readRows_isSome n.toNat t
        rw [hr, Option.isSome_some, eq_comm, beq_iff_eq] at ht
        simp only [Command.consistent, Bool.and_eq_true, decide_eq_true_eq, hlen] at hcons
        exact ⟨hcons.1.1, hcons.1.2, by omega⟩
      · rintro ⟨h1, h2, h3⟩
        have hs : (readRows n.toNat t).isSome = true := by rw [readRows_isSome, beq_iff_eq]; omega
        obtain ⟨rows, hr⟩ := Option.isSome_iff_exists.1 hs
        obtain ⟨hlen, hall, -⟩ := (readRows_iff _ _ _).1 hr
        refine ⟨_, rows, hr, rfl, ?_⟩
        simp only [Command.consistent, Bool.and_eq_true, decide_eq_true_eq, List.all_eq_true, beq_iff_eq, hlen]
        exact ⟨⟨h1, h2⟩, hall⟩

theorem textWriteReader_sound : ReaderSound 0x22 readTextWrite where
  spells bs c h := by
    match bs, h with
    | a :: b :: t, h =>
      obtain ⟨rfl, hcons⟩ := (keepConsistent_iff _ _).1 h
      exact ⟨rfl, by simp [Command.payload], hcons⟩
  length bs := by
    show some _ = some _
    congr 1
    match bs with
    | [] | [_] => rfl
    | a :: b :: t =>
      refine Eq.trans ?_ (keepConsistent_isSome _).symm
      exact Bool.eq_iff_iff.2 (by simp only [decide_eq_true_eq, Command.consistent, List.length_cons]; omega)

/-- Every reader of the table is sound for its code. -/
theorem commandReaders_sound : ∀ p ∈ commandReaders, ReaderSound p.1 p.2 := by
  simp only [commandReaders, List.forall_mem_append, List.forall_mem_cons, List.not_mem_nil,
    false_imp_iff, implies_true, and_true]
  exact ⟨⟨⟨⟨⟨resetReader_sound, deviceReader_sound, paletteReader_sound, fontDefineReader_sound, fontClearReader_sound,
    metricsReader_sound, glyphRowsReader_sound, codeMapReader_sound⟩,
    styleWriteReader_sound, styleDropReader_sound, textWriteReader_sound, itemWriteReader_sound, itemDropReader_sound,
    itemRunReader_sound (make := .playlistWrite) 0 116 (by decide) (by decide) rfl rfl (fun _ _ => rfl) (fun _ _ => rfl)
      (fun _ _ => by simp [Command.consistent]),
    itemRunReader_sound (make := .playlistAppend) 1 116 (by decide) (by decide) rfl rfl (fun _ _ => rfl) (fun _ _ => rfl)
      (fun _ _ => rfl)⟩,
    laneConfigReader_sound, laneStartReader_sound, laneStopReader_sound, laneSpeedReader_sound,
    itemRunReader_sound (make := .interject) 1 8 (by decide) (by decide) rfl rfl (fun _ _ => rfl) (fun _ _ => rfl)
      (fun _ _ => rfl),
    interjectCancelReader_sound⟩,
    symbolDefineReader_sound, symbolDropReader_sound,
    priceReader_sound (by decide) (by decide) rfl (fun _ => rfl) (fun _ => rfl) (fun _ => rfl), quoteBatchReader_sound,
    priceReader_sound (by decide) (by decide) rfl (fun _ => rfl) (fun _ => rfl) (fun _ => rfl), haltReader_sound,
    movementReader_sound⟩,
    nothingReader_sound (by decide) (by decide) rfl rfl rfl rfl, nothingReader_sound (by decide) (by decide) rfl rfl rfl rfl,
    guardConfigReader_sound, slateConfigReader_sound, guardSetReader_sound,
    nothingReader_sound (by decide) (by decide) rfl rfl rfl rfl, queryReader_sound⟩

theorem readerOf_sound {code : Byte} {reader : List Byte → Option Command} (h : readerOf code = some reader) :
    ReaderSound code reader := by
  obtain ⟨l1, l2, hl, -⟩ := List.lookup_eq_some_iff.1 h
  exact commandReaders_sound (code, reader) (by rw [hl]; simp)

theorem readCommand_eq_command {code : Byte} {payload : List Byte} {c : Command} :
    readCommand code payload = .command c ↔ ∃ reader, readerOf code = some reader ∧ reader payload = some c := by
  unfold readCommand
  cases readerOf code with
  | none => simp
  | some reader => cases h : reader payload <;> simp [h]

/-- Settles O22: every reader of the table spells its command's payload. -/
theorem payloadIsDeterminedByTheCommand : Obligations.PayloadIsDeterminedByTheCommand := by
  intro code payload c h
  obtain ⟨reader, hr, hc⟩ := readCommand_eq_command.1 h
  exact (readerOf_sound hr).spells payload c hc

theorem readCommand_of_read {c : Command} {reader : List Byte → Option Command}
    (hr : readerOf (Command.code c) = some reader) (hc : reader (Command.payload c) = some c) :
    readCommand (Command.code c) (Command.payload c) = .command c := readCommand_eq_command.2 ⟨reader, hr, hc⟩

theorem byte_toNat_of_lt {n : Nat} (h : n < 256) : (byte n).toNat = n := by rw [byte_toNat_eq, Nat.mod_eq_of_lt h]

/-- A run read behind its own count is the run. -/
theorem readRun_bind_count {α : Type} {read : List Byte → Option (List α)} {c : Command} {bs : List Byte} {xs : List α}
    {make : List α → Command} (hread : read bs = some xs) (hmake : make xs = c) (hc : Command.consistent c = true)
    (hlen : xs.length < 256) :
    ((read bs).bind fun ys => if ys.length = (byte xs.length).toNat then keepConsistent (make ys) else none) = some c := by
  rw [hread, Option.bind_some, if_pos (byte_toNat_of_lt hlen).symm, hmake]
  exact (keepConsistent_iff c c).2 ⟨rfl, hc⟩

theorem readDevice_payload (f : DeviceFields) :
    readDevice (Command.payload (.deviceConfig f)) = some (.deviceConfig f) := by
  obtain ⟨⟨h0, h1, h2, h3⟩, h4, h5, h6, h7⟩ := presenceSet_bits f.groupAddress.isSome f.lossFilter.isSome
    f.classFilter.isSome f.largeThreshold.isSome f.staleLimit.isSome f.feedTimeout.isSome f.keyFade.isSome
    f.guardFade.isSome
  simp only [readDevice, Command.payload, Option.bind_eq_some_iff, Prod.exists, takeByte_iff, takeHalf_iff,
    Option.ite_none_right_eq_some, List.isEmpty_iff, List.append_assoc]
  exact ⟨f.groupAddress, _, ⟨h0.symm, rfl⟩, f.lossFilter, _, ⟨h1.symm, rfl⟩, f.classFilter, _, ⟨h2.symm, rfl⟩,
    f.largeThreshold, _, ⟨h3.symm, rfl⟩, f.staleLimit, _, ⟨h4.symm, rfl⟩, f.feedTimeout, _, ⟨h5.symm, rfl⟩,
    f.keyFade, _, ⟨h6.symm, rfl⟩, f.guardFade, [], ⟨h7.symm, List.append_nil _⟩, rfl, rfl⟩

theorem readGlyphRows_payload (f : RowsFields) (hc : Command.consistent (.glyphRows f) = true) :
    readGlyphRows (Command.payload (.glyphRows f)) = some (.glyphRows f) := by
  have hcons := hc
  simp only [Command.consistent, Bool.and_eq_true, decide_eq_true_eq, List.all_eq_true, beq_iff_eq] at hcons
  obtain ⟨⟨h1, h2⟩, h3⟩ := hcons
  have hn := byte_toNat_of_lt (n := f.rows.length) (by omega)
  have hrows : readRows (byte f.rows.length).toNat (rowsBytes f.rows) = some f.rows :=
    (readRows_iff _ _ _).2 ⟨hn.symm, h3, rfl⟩
  simp only [Command.payload, halfBytes_eq, List.cons_append, List.nil_append, readGlyphRows, half_bytes]
  rw [hrows]
  exact (keepConsistent_iff _ _).2 ⟨rfl, hc⟩

theorem readSymbolDefine_payload (f : SymbolFields) (hc : f.places.length = 8) :
    readSymbolDefine (Command.payload (.symbolDefine f)) = some (.symbolDefine f) := by
  obtain ⟨symbol, owner, n, places, decimals, inverse, reference⟩ := f
  match places, hc with
  | [a, b, c, d, e, f, g, h], _ => simp [Command.payload, halfBytes_eq, quadBytes_eq, readSymbolDefine]

/-- Settles O21, command by command: the reader of its code reads its payload. -/
theorem payloadReadsBackAsTheCommand : Obligations.PayloadReadsBackAsTheCommand := by
  intro c hc
  cases c with
  | reset _ | fontClear _ | styleDrop _ | laneStart _ _ _ | laneStop _ _ | interjectCancel _ | movementWrite _ | keyOn
  | keyOff | guardConfig _ | guardSet _ _ | guardRelease => exact readCommand_of_read rfl rfl
  | deviceConfig f => exact readCommand_of_read rfl (readDevice_payload f)
  | paletteWrite first cs =>
    refine readCommand_of_read rfl (readRun_bind_count ((readColours_iff _ cs).2 rfl) rfl hc ?_)
    have := of_decide_eq_true hc
    omega
  | fontDefine f => exact readCommand_of_read rfl (by simp [Command.payload, halfBytes_eq, readFontDefine])
  | glyphMetrics f => exact readCommand_of_read rfl (by simp [Command.payload, halfBytes_eq, readMetrics])
  | glyphRows f => exact readCommand_of_read rfl (readGlyphRows_payload f hc)
  | codeMapWrite f =>
    refine readCommand_of_read rfl (readRun_bind_count (make := fun es => .codeMapWrite ⟨f.font, f.first, es⟩)
      ((readHalves_iff _ f.entries).2 rfl) rfl hc ?_)
    have := of_decide_eq_true hc
    omega
  | styleWrite f => exact readCommand_of_read rfl (by simp [Command.payload, halfBytes_eq, readStyleWrite])
  | textWrite offset codes =>
    refine readCommand_of_read rfl ?_
    simp only [Command.payload, halfBytes_eq, List.cons_append, List.nil_append, readTextWrite, half_bytes]
    exact (keepConsistent_iff _ _).2 ⟨rfl, hc⟩
  | itemWrite f => exact readCommand_of_read rfl (by simp [Command.payload, halfBytes_eq, readItemWrite])
  | itemDrop item => exact readCommand_of_read rfl (by simp [Command.payload, halfBytes_eq, readItemDrop])
  | playlistWrite m is =>
    refine readCommand_of_read rfl (readRun_bind_count ((readHalves_iff _ is).2 rfl) rfl hc ?_)
    have := of_decide_eq_true hc
    omega
  | playlistAppend m is =>
    refine readCommand_of_read rfl (readRun_bind_count ((readHalves_iff _ is).2 rfl) rfl hc ?_)
    have := of_decide_eq_true hc
    omega
  | laneConfig f => exact readCommand_of_read rfl (by simp [Command.payload, halfBytes_eq, readLaneConfig])
  | laneSpeed m t st => exact readCommand_of_read rfl (by simp [Command.payload, halfBytes_eq, readLaneSpeed])
  | interject m is =>
    refine readCommand_of_read rfl (readRun_bind_count ((readHalves_iff _ is).2 rfl) rfl hc ?_)
    have := of_decide_eq_true hc
    omega
  | symbolDefine f => exact readCommand_of_read rfl (readSymbolDefine_payload f (beq_iff_eq.1 hc))
  | symbolDrop y => exact readCommand_of_read rfl (by simp [Command.payload, halfBytes_eq, readSymbolDrop])
  | quote f => exact readCommand_of_read rfl (by simp [Command.payload, halfBytes_eq, quadBytes_eq, readPrice])
  | quoteBatch ps =>
    refine readCommand_of_read rfl (readRun_bind_count ((readPairs_iff _ ps).2 rfl) rfl hc ?_)
    have := of_decide_eq_true hc
    omega
  | reference f => exact readCommand_of_read rfl (by simp [Command.payload, halfBytes_eq, quadBytes_eq, readPrice])
  | halt y flag => exact readCommand_of_read rfl (by simp [Command.payload, halfBytes_eq, readHalt])
  | slateConfig f => exact readCommand_of_read rfl (by simp [Command.payload, halfBytes_eq, readSlateConfig])
  | query k i => exact readCommand_of_read rfl (by simp [Command.payload, halfBytes_eq, readQuery])

end Sys2Proof.Machine
end

section
/-! PROOFS. The intake: what arrives, what waits, what is taken at once, and what is refused before its own effect (spec 02
sections 2.2 and 2.3, spec 03). -/

namespace Sys2Proof.Machine

open Sys2Proof

/-! ## Rows of the table and their packets -/

/-- Settles O1: the step is its own definition's two cases. -/
theorem stepRunsTheFrontCommand : Obligations.StepRunsTheFrontCommand := fun _ _ _ => ⟨rfl, rfl⟩

/-- A row that stands for a packet offers its command. -/
theorem exec_packetCommand {i : Instr} {h : Header} {c : Command} (s : State) (hi : packetCommand i = some (h, c)) :
    exec i s = whileRunning (submit h c) s := by
  cases i <;> cases hi <;> rfl

theorem exec_packetArrival (p : Found) (s : State) : exec (.packetArrival p) s = whileRunning (arrive p) s := rfl

theorem submit_not_ready (h : Header) (c : Command) (s : State) (hr : isReady s = false) :
    submit h c s = offer (entryOf h c) s := by simp [submit, hr]

theorem isReady_iff (s : State) : isReady s = true ↔ s.engine.op = none ∧ s.intake.queue = [] ∧ s.intake.latch = false := by
  simp [isReady, and_assoc]

/-- Settles O23: an engine with an operation in flight is not ready, so the command's entry is offered, and waits. -/
theorem commandsWaitWhileBusy : Obligations.CommandsWaitWhileBusy := by
  intro i h c s hi ⟨hpin, hop⟩ hq hl
  have hready : isReady s = false := by
    refine Bool.eq_false_iff.2 fun hr => ?_
    rw [((isReady_iff s).1 hr).1] at hop
    exact absurd hop Bool.false_ne_true
  rw [exec_packetCommand s hi, whileRunning_high _ s hpin, submit_not_ready h c s hready, offer_busy _ s hop hq hl]
  rfl

/-! ## Sums and sizes of packets -/

theorem byteSum_toNat (bs : List Byte) : (byteSum bs).toNat = (bs.map BitVec.toNat).sum % 256 := by
  induction bs with
  | nil => rfl
  | cons b bs ih =>
    rw [byteSum, BitVec.toNat_add, ih, List.map_cons, List.sum_cons]
    omega

theorem byteSum_append (as bs : List Byte) : byteSum (as ++ bs) = byteSum as + byteSum bs := by
  induction as with
  | nil => simp [byteSum]
  | cons a as ih => rw [List.cons_append, byteSum, byteSum, ih, BitVec.add_assoc]

/-- The bytes of a control packet sum to 0 (spec 02 R17). -/
theorem byteSum_packetBytes (address level code seq : Byte) (payload : List Byte) :
    byteSum (packetBytes address level code seq payload) = 0 := by
  have happ : ∀ bs : List Byte, byteSum (bs ++ [-(byteSum bs)]) = 0 := fun bs => by
    rw [byteSum_append]
    show byteSum bs + (-(byteSum bs) + 0#8) = 0#8
    rw [BitVec.add_zero, BitVec.add_right_neg]
  exact happ _

theorem fixedLengths_le : ∀ p ∈ fixedLengths, p.2 ≤ 18 := by decide

theorem countedLengths_le : ∀ p ∈ countedLengths, p.2.head + p.2.each * p.2.most ≤ 240 := by decide

theorem settingsLength_le (p : Byte) : settingsLength p ≤ 11 := by
  have h := fun i => Bool.toNat_le (p.getLsbD i)
  have h0 := h 0
  have h1 := h 1
  have h2 := h 2
  have h3 := h 3
  have h4 := h 4
  have h5 := h 5
  have h6 := h 6
  have h7 := h 7
  unfold settingsLength
  omega

/-- A consistent payload fits a packet (spec 02 R17). -/
theorem length_le_of_lengthConsistent {code : Byte} {payload : List Byte}
    (h : lengthConsistent code payload = some true) : payload.length ≤ 240 := by
  unfold lengthConsistent at h
  split at h
  · cases payload with
    | nil => simp
    | cons p rest =>
      have hlen : rest.length = settingsLength p := by simpa using h
      have := settingsLength_le p
      simp only [List.length_cons]; omega
  · split at h
    · exact (of_decide_eq_true (Option.some.inj h)).2
    · split at h
      · rename_i n hn
        obtain ⟨l1, l2, hl, -⟩ := List.lookup_eq_some_iff.1 hn
        have hle := fixedLengths_le (code, n) (by rw [hl]; simp)
        have hlen : payload.length = n := by simpa using h
        simp only at hle
        omega
      · obtain ⟨c, hc, hd⟩ := Option.map_eq_some_iff.1 h
        obtain ⟨l1, l2, hl, -⟩ := List.lookup_eq_some_iff.1 hc
        have hle := countedLengths_le (code, c) (by rw [hl]; simp)
        split at hd
        · rename_i n _
          obtain ⟨-, hmost, hlen⟩ := of_decide_eq_true hd
          have := Nat.mul_le_mul_left c.each hmost
          simp only at hle
          omega
        · cases hd

/-- The payload of a consistent command fits a packet. -/
theorem payload_length_le (c : Command) (hc : Command.consistent c = true) : (Command.payload c).length ≤ 240 := by
  obtain ⟨reader, hr, hread⟩ := readCommand_eq_command.1 (payloadReadsBackAsTheCommand c hc)
  refine length_le_of_lengthConsistent (code := Command.code c) ?_
  rw [(readerOf_sound hr).length, hread]; rfl

/-! ## The arrival of a command's packet -/

theorem byte_level_toNat (h : Header) (hl : h.level ≤ 3) : (byte h.level).toNat = h.level :=
  byte_toNat_of_lt (by omega)

/-- The entry that a command's packet becomes (spec 02 section 2.2, R17). -/
theorem entryOfPacket_packetOf (a : Byte) (h : Header) (c : Command) (hl : h.level ≤ 3)
    (hc : Command.consistent c = true) : entryOfPacket h.route (packetOf a h c) = entryOf h c := by
  have hlen := payload_length_le c hc
  have hn : (byte (Command.payload c).length).toNat = (Command.payload c).length := byte_toNat_of_lt (by omega)
  have hd : isDamaged (packetOf a h c) = false := by
    have hs : byteSum (packetOf a h c).bytes = 0 := byteSum_packetBytes _ _ _ _ _
    have h4 : packetField (packetOf a h c) 4 = byte (Command.payload c).length := rfl
    have h1 : packetField (packetOf a h c) 1 = byte h.level := rfl
    simp only [isDamaged, hs, h4, h1, hn, byte_level_toNat h hl]
    simp [packetOf, hlen, hl]
  have hp : ((packetOf a h c).bytes.drop 5).take (min (packetField (packetOf a h c) 4).toNat 240) = Command.payload c := by
    have h4 : packetField (packetOf a h c) 4 = byte (Command.payload c).length := rfl
    rw [h4, hn, Nat.min_eq_left hlen]
    exact List.take_left' rfl
  simp only [entryOfPacket, hd, hp]
  rfl

theorem takeEntry_entryOf (h : Header) (c : Command) (s : State) (hl : h.level ≤ 3) (hc : Command.consistent c = true) :
    takeEntry (entryOf h c) s = takeCommand h c s := by
  have hh : headerOf (entryOf h c) = h := by
    cases h
    simp only [headerOf, entryOf, byte_level_toNat _ hl]
  have hread := payloadReadsBackAsTheCommand c hc
  show (match readCommand (Command.code c) (Command.payload c) with
    | .unknown => refuse h.seq (Command.code c) .unknown s
    | .badLength => refuse h.seq (Command.code c) .length s
    | .command d => takeCommand (headerOf (entryOf h c)) d s) = takeCommand h c s
  rw [hread, hh]

/-- Settles O20: the packet of a command becomes the entry of that command, which is offered, or taken at once. -/
theorem arrivalOfItsPacketIsTheCommand : Obligations.ArrivalOfItsPacketIsTheCommand := by
  intro i h c a s hi hl hc hroute
  have harrive : arrive (packetOf a h c) s = submit h c s := by
    rw [arrive_of_route (packetOf a h c) h.route a _ s rfl rfl hroute, entryOfPacket_packetOf a h c hl hc]
    cases hr : isReady s with
    | false => rw [submit_not_ready h c s hr]
    | true =>
      obtain ⟨hop, hq, hlatch⟩ := (isReady_iff s).1 hr
      rw [offer_ready _ s hop hq hlatch, takeEntry_entryOf h c s hl hc]
      simp [submit, hr]
  rw [exec_packetCommand s hi, exec_packetArrival, whileRunning, whileRunning, harrive]

/-! ## Routes and damage -/

/-- Spec 02 R16: the three routes, in their order. -/
theorem routeOf_iff (s : State) (a : Nat) (r : Route) : routeOf s a = some r ↔
    (a = deviceAddress s ∧ r = .device ∨
      a ≠ deviceAddress s ∧ s.intake.groupAddress = some a ∧ r = .group ∨
      a ≠ deviceAddress s ∧ s.intake.groupAddress ≠ some a ∧ a = 31 ∧ r = .all) := by
  unfold routeOf
  split
  · simp_all [eq_comm]
  · split
    · simp_all [eq_comm]
    · split <;> simp_all [eq_comm]

theorem isDamaged_iff (p : Found) : isDamaged p = true ↔ (p.bytes.map BitVec.toNat).sum % 256 ≠ 0 ∨
    240 < (p.bytes.getD 4 0).toNat ∨ 3 < (p.bytes.getD 1 0).toNat ∨ p.truncated = true := by
  have hs : byteSum p.bytes = 0 ↔ (p.bytes.map BitVec.toNat).sum % 256 = 0 := by
    rw [← byteSum_toNat]
    exact ⟨fun h => by rw [h]; rfl, fun h => BitVec.eq_of_toNat_eq h⟩
  simp only [isDamaged, Bool.or_eq_true, bne_iff_ne, ne_eq, hs, decide_eq_true_eq]
  simp only [packetField]
  rw [or_assoc, or_assoc, or_comm]
  simp only [or_assoc]

theorem entryOfPacket_payload (r : Route) (p : Found) (i : Nat) : (entryOfPacket r p).payload[i]? =
    if i < (p.bytes.getD 4 0).toNat ∧ i < 240 then p.bytes[5 + i]? else none := by
  simp only [entryOfPacket, packetField, List.getElem?_take, List.getElem?_drop, Nat.lt_min]

/-- Settles O18: the arrival offers the entry along the route, and an entry offered waits, or is taken at once. -/
theorem packetsMatchByAddress : Obligations.PacketsMatchByAddress := by
  intro p s hpin
  have hexec : exec (.packetArrival p) s = .next (arrive p s) := whileRunning_high _ s hpin
  refine ⟨fun h => ?_, fun a rest hk hb => ⟨fun h1 h2 h3 => ?_, fun r hr => ?_⟩⟩
  · rw [hexec]
    rcases h with h | h <;> simp [arrive, h]
  · rw [hexec]
    have : routeOf s a.toNat = none := by simp [routeOf, h1, h2, h3]
    simp [arrive, hk, hb, this]
  · rw [hexec, arrive_of_route p r a rest s hk hb ((routeOf_iff s a.toNat r).2 hr)]
    refine ⟨fun hop hq hl => by rw [offer_busy _ s hop hq hl]; rfl,
      fun ⟨_, hop, hq, hl⟩ => by rw [offer_ready _ s hop hq hl], ?_⟩
    exact ⟨rfl, rfl, rfl, rfl, entryOfPacket_payload r p, isDamaged_iff p⟩

/-! ## Refusals before a command's own checks -/

/-- A code without a reader has no length (256 codes). -/
theorem lengthConsistent_nil_of_unread : ∀ code : Byte, readerOf code = none → lengthConsistent code [] = none := by
  decide +kernel

theorem lengthConsistent_eq_none {code : Byte} {payload : List Byte} :
    lengthConsistent code payload = none ↔ readerOf code = none := by
  constructor
  · intro h
    cases hr : readerOf code with
    | none => rfl
    | some reader => rw [(readerOf_sound hr).length] at h; cases h
  · intro hr
    have h := lengthConsistent_nil_of_unread code hr
    unfold lengthConsistent at h ⊢
    split at h
    · cases h
    · split at h
      · cases h
      · split at h
        · cases h
        · rename_i h02 h22 _ hf
          rw [if_neg h02, if_neg h22, Option.map_eq_none_iff.1 h]
          rfl

theorem refuse_eq (seq code : Byte) (r : Reason) (s : State) : refuse seq code r s =
    { s with engine := { s.engine with
      refusals := s.engine.refusals + 1
      last := some { seq := seq, code := code, reason := r, frameCount := s.timing.counter } } } := rfl

theorem readCommand_of_lengthConsistent {code : Byte} {payload : List Byte} {b : Bool}
    (h : lengthConsistent code payload = some b) :
    (b = false → readCommand code payload = .badLength) ∧ (b = true → ∃ c, readCommand code payload = .command c) := by
  cases hr : readerOf code with
  | none => rw [lengthConsistent_eq_none.2 hr] at h; cases h
  | some reader =>
    rw [(readerOf_sound hr).length] at h
    cases h
    simp only [readCommand, hr]
    cases reader payload <;> simp

theorem takeEntry_of_unknown (e : Entry) (s : State) (hd : e.damaged = false) (hr : readerOf e.code = none) :
    takeEntry e s = refuse e.seq e.code .unknown s := by
  simp [takeEntry, hd, readCommand, hr]

theorem submitEntry_ready (e : Entry) (s : State) (r : Ready s) : submitEntry e s = takeEntry e s := by
  obtain ⟨_, hop, hq, hl⟩ := r
  rw [submitEntry, if_pos ((isReady_iff s).2 ⟨hop, hq, hl⟩)]

/-- Settles O25: the taking examines damage, code and length in turn, and the readers' lengths are those of the table. -/
theorem refusedBeforeTheirOwnChecks : Obligations.RefusedBeforeTheirOwnChecks := by
  intro s ready
  obtain ⟨hpin, hop, hq, hl⟩ := id ready
  refine ⟨fun e => ?_, fun h code payload hr => ?_, fun i h c hi hc => ?_, fun p a rest r hk hb hroute => ?_⟩
  · refine (whileRunning_high _ s hpin).trans ?_
    rw [submitEntry_ready _ s ready]
    rfl
  · refine (whileRunning_high _ s hpin).trans ?_
    rw [submitEntry_ready _ s ready, takeEntry_of_unknown (plainEntry h code payload) s rfl hr]
    rfl
  · rw [exec_packetCommand s hi, whileRunning_submit h c s ready, takeCommand_of_inconsistent h c s hc]
    rfl
  · have hexec : exec (.packetArrival p) s = .next (takeEntry (entryOfPacket r p) s) := by
      rw [exec_packetArrival, whileRunning_high _ s hpin, arrive_of_route p r a rest s hk hb hroute,
        offer_ready _ s hop hq hl]
    rw [hexec]
    refine ⟨fun hd => by simp [takeEntry, hd, refuse_eq], fun hd hn => ?_, fun hd hn => ?_, fun hn => ?_⟩
    · rw [takeEntry_of_unknown _ s hd (lengthConsistent_eq_none.1 hn)]
      rfl
    · simp [takeEntry, hd, (readCommand_of_lengthConsistent hn).1 rfl, refuse_eq]
    · exact (readCommand_of_lengthConsistent hn).2 rfl

/-! ## Source levels -/

/-- Where a level is required, a packet above it is refused with LEVEL, whatever its fields (spec 03 R33). -/
theorem runCommand_of_level (h : Header) (c : Command) (s : State) (n : Nat) (hc : levelRequired c = some n)
    (hl : n < h.level) : runCommand h c s = .error .level := by
  cases c <;> cases hc <;>
    simp [runCommand, doReset, doDeviceConfig, doPaletteWrite, doFontDefine, doFontClear, doGlyphMetrics, doGlyphRows,
      doCodeMapWrite, doTextWrite, doSymbolDefine, doSymbolDrop, doMovementWrite, doKeyOn, doKeyOff, doKeyWish,
      doGuardConfig, doSlateConfig, doGuardSet, doGuardRelease, hl]

/-- The checks of a command that names an owned object, in their order (spec 03 R34): of the object's number and owner, of
whether the command needs it, of the owner field, and of the result. -/
structure ChecksOwner (h : Header) (inRange : Bool) (owner : Option Nat) (needs : Bool) (field : Option Byte)
    (r : Except Reason State) : Prop where
  range : inRange = false → r = .error .range
  absent : inRange = true → owner = none → needs = true → r = .error .notDefined
  level : ∀ o, inRange = true → owner = some o → o < h.level → r = .error .level
  field : ∀ w, field = some w → 3 < w.toNat → inRange = true → (∀ o, owner = some o → h.level ≤ o) → r = .error .range

theorem checkedSymbol_checks (h : Header) (n : Half) (s : State) (r : Except Reason State)
    (hr : ∀ e, checkedSymbol h n s = .error e → r = .error e) :
    ChecksOwner h (decide (n.toNat ≤ 511)) ((symbolAt s.quote n.toNat).map Symbol.owner) true none r where
  range hn := hr _ (by rw [checkedSymbol, if_pos (by simpa using hn)])
  absent hn ho _ := hr _ (checkedSymbol_of_absent h n s (of_decide_eq_true hn) (Option.map_eq_none_iff.1 ho))
  level o hn ho hl := hr _ (by
    obtain ⟨x, hx, rfl⟩ := Option.map_eq_some_iff.1 ho
    rw [checkedSymbol, if_neg (by have := of_decide_eq_true hn; omega), hx]
    exact if_pos hl)
  field w hw := nomatch hw

theorem checkedLane_checks (h : Header) (lane : Byte) (s : State) (r : Except Reason State)
    (hr : ∀ e, checkedLane h lane s = .error e → r = .error e) :
    ChecksOwner h (decide (lane.toNat ≤ 3)) (some (laneOf s lane.toNat).owner) false none r where
  range hn := hr _ (by
    rw [checkedLane, laneNumber, if_neg (by have := of_decide_eq_false hn; omega)])
  absent _ ho := nomatch ho
  level o hn ho hl := hr _ (by
    cases ho
    rw [checkedLane, laneNumber, if_pos (by have := of_decide_eq_true hn; omega)]
    exact if_pos hl)
  field w hw := nomatch hw

theorem levelAbove_of_lt {level o : Nat} {owner : Option Nat} (ho : owner = some o) (hl : o < level) :
    levelAbove level owner = true := by
  rw [ho]; exact decide_eq_true hl

/-- The checks of a write: its number, the level, and the owner field where it has one. -/
theorem write_checks (h : Header) (inRange : Bool) (owner : Option Nat) (field : Option Byte) (r : Except Reason State)
    (hrange : inRange = false → r = .error .range)
    (hlevel : inRange = true → levelAbove h.level owner = true → r = .error .level)
    (hfield : ∀ w, field = some w → 3 < w.toNat → inRange = true → levelAbove h.level owner = false → r = .error .range) :
    ChecksOwner h inRange owner false field r where
  range := hrange
  absent _ _ hn := nomatch hn
  level _ hi ho hl := hlevel hi (levelAbove_of_lt ho hl)
  field w hw h3 hi ho := hfield w hw h3 hi (levelAbove_of_le _ _ ho)

theorem runCommand_checksOwner (h : Header) (c : Command) (s : State) (inRange : Bool) (owner : Option Nat)
    (hl : ∀ n, levelRequired c = some n → h.level ≤ n) (ho : ownedObject s c = some (inRange, owner)) :
    ChecksOwner h inRange owner (needsObject c) (requestedOwner c) (runCommand h c s) := by
  cases c with
  | styleWrite f =>
    cases ho
    refine write_checks h _ _ _ _ (fun hn => ?_) (fun hi hl => ?_) fun w hw h3 hi hl => ?_
    · simp only [runCommand, doStyleWrite, styleSelectorOk, hn]; rfl
    · simp only [runCommand, doStyleWrite, styleSelectorOk, hi, hl]; rfl
    · cases hw; simp only [runCommand, doStyleWrite, styleSelectorOk, hi, hl, h3]; rfl
  | styleDrop n =>
    cases ho
    refine ⟨fun hn => ?_, fun hi ho _ => ?_, fun o hi ho hl => ?_, nofun⟩
    · simp only [runCommand, doStyleDrop, styleSelectorOk, hn]; rfl
    · simp only [runCommand, doStyleDrop, styleSelectorOk, hi, Option.map_eq_none_iff.1 ho]; rfl
    · obtain ⟨x, hx, rfl⟩ := Option.map_eq_some_iff.1 ho
      simp only [runCommand, doStyleDrop, styleSelectorOk, hi, hx, hl]; rfl
  | itemWrite f =>
    cases ho
    refine write_checks h _ _ _ _ (fun hn => ?_) (fun hi hl => ?_) nofun
    · rw [runCommand, doItemWrite, if_pos (Nat.lt_of_not_le (of_decide_eq_false hn))]
    · rw [runCommand, doItemWrite, if_neg (Nat.not_lt.2 (of_decide_eq_true hi)), if_pos hl]
  | itemDrop n =>
    cases ho
    refine ⟨fun hn => ?_, fun hi ho _ => ?_, fun o hi ho hl => ?_, nofun⟩
    · rw [runCommand, doItemDrop, if_pos (Nat.lt_of_not_le (of_decide_eq_false hn))]
    · rw [runCommand, doItemDrop, if_neg (Nat.not_lt.2 (of_decide_eq_true hi)), Option.map_eq_none_iff.1 ho]
    · obtain ⟨x, hx, rfl⟩ := Option.map_eq_some_iff.1 ho
      rw [runCommand, doItemDrop, if_neg (Nat.not_lt.2 (of_decide_eq_true hi)), hx]
      exact if_pos hl
  | symbolDefine f =>
    cases ho
    have h1 := Nat.not_lt.2 (hl 1 rfl)
    refine write_checks h _ _ _ _ (fun hn => ?_) (fun hi hl => ?_) fun w hw h3 hi hl => ?_
    · rw [runCommand, doSymbolDefine, if_neg h1, if_pos (Nat.lt_of_not_le (of_decide_eq_false hn))]
    · rw [runCommand, doSymbolDefine, if_neg h1, if_neg (Nat.not_lt.2 (of_decide_eq_true hi)), if_pos hl]
    · cases hw
      rw [runCommand, doSymbolDefine, if_neg h1, if_neg (Nat.not_lt.2 (of_decide_eq_true hi)), hl, if_neg Bool.false_ne_true,
        if_pos h3]
  | symbolDrop n =>
    cases ho
    refine checkedSymbol_checks h n s _ fun e he => ?_
    simp [runCommand, doSymbolDrop, Nat.not_lt.2 (hl 1 rfl), he]
  | quote f | reference f =>
    cases ho
    exact checkedSymbol_checks h f.symbol s _ fun e he => by simp [runCommand, doQuote, doReference, he]
  | halt n flag =>
    cases ho
    exact checkedSymbol_checks h n s _ fun e he => by simp [runCommand, doHalt, he]
  | playlistWrite m is =>
    cases ho
    exact checkedLane_checks h m s _ fun e he => by simp [runCommand, doPlaylistWrite, he]
  | playlistAppend m is =>
    cases ho
    exact checkedLane_checks h m s _ fun e he => by simp [runCommand, doPlaylistAppend, he]
  | laneStart m mode start =>
    cases ho
    exact checkedLane_checks h m s _ fun e he => by simp [runCommand, doLaneStart, he]
  | laneStop m mode =>
    cases ho
    exact checkedLane_checks h m s _ fun e he => by simp [runCommand, doLaneStop, he]
  | laneSpeed m t st =>
    cases ho
    exact checkedLane_checks h m s _ fun e he => by simp [runCommand, doLaneSpeed, he]
  | interject m is =>
    cases ho
    exact checkedLane_checks h m s _ fun e he => by simp [runCommand, doInterject, he]
  | interjectCancel m =>
    cases ho
    exact checkedLane_checks h m s _ fun e he => by simp [runCommand, doInterjectCancel, he]
  | laneConfig f =>
    cases ho
    have hchecks := checkedLane_checks h f.lane s (doLaneConfig h f s) fun e he => by simp [doLaneConfig, he]
    refine ⟨hchecks.range, nofun, hchecks.level, fun w hw h3 hi ho => ?_⟩
    cases hw
    have hm : checkedLane h f.lane s = .ok f.lane.toNat := by
      rw [checkedLane, laneNumber, if_pos (Nat.lt_succ_of_le (of_decide_eq_true hi))]
      exact if_neg (Nat.not_lt.2 (ho _ rfl))
    rw [runCommand, doLaneConfig, hm]
    exact if_pos h3
  | _ => cases ho

/-- Settles O24: a packet command taken at once is refused as its own checks say, in their order. -/
theorem levelsAboveTheRequirementAreRefused : Obligations.LevelsAboveTheRequirementAreRefused := by
  intro i h c s hi hc ready refused
  have hrefused : ∀ r, runCommand h c s = .error r → exec i s = .next (refused r) := fun r hr => by
    rw [exec_packetCommand s hi, whileRunning_submit h c s ready, takeCommand_of_error h c s r hc hr]
    rfl
  refine ⟨fun n hn hl => hrefused _ (runCommand_of_level h c s n hn hl), fun inRange owner hl ho => ?_⟩
  have hchecks := runCommand_checksOwner h c s inRange owner hl ho
  exact ⟨fun hr => hrefused _ (hchecks.range hr), fun hi ho hn => hrefused _ (hchecks.absent hi ho hn),
    fun o hi ho hl => hrefused _ (hchecks.level o hi ho hl),
    fun w hw h3 hi ho => hrefused _ (hchecks.field w hw h3 hi ho)⟩

end Sys2Proof.Machine
end

section
/-! PROOFS. The completions of the engine (spec 02 R20, R21, R26, spec 04 R49, R51): what they write, and the takings that
follow them. -/

namespace Sys2Proof.Machine

open Sys2Proof

/-! ## Rows and runs of the glyph store -/

/-- The coverage of a slot's contents at a row and a column. -/
def coverageIn (x : Glyph) (n row column : Nat) : Nat :=
  match Table.find x.rows row with
  | some (.written columns) => columns.getD column 0
  | some (.undefined k) => fillCoverage (.undefined k) n row column
  | none => fillCoverage x.fill n row column

theorem coverageOf_eq (g : GlyphStore) (n row column : Nat) : coverageOf g n row column = coverageIn (glyphAt g n) n row column :=
  rfl

theorem zeroRow_getD (column : Nat) : zeroRow.getD column 0 = 0 := by
  simp only [zeroRow, List.getD_eq_getElem?_getD, List.getElem?_replicate]
  split <;> rfl

/-- A row written is read back; the others stand. -/
theorem coverageIn_withRow (x : Glyph) (hx : RowsRising x) (n k row column : Nat) (values : List Nat) :
    coverageIn (Glyph.withRow x k values) n row column =
      if k = row then values.getD column 0 else coverageIn x n row column := by
  by_cases hz : x.fill = .zero ∧ values = zeroRow
  · obtain ⟨hfill, rfl⟩ := hz
    have hrows : Glyph.withRow x k zeroRow = { x with rows := Table.erase k x.rows } := by
      simp [Glyph.withRow, hfill]
    rw [hrows]
    simp only [coverageIn, Table.find_erase x.rows k row hx]
    by_cases hk : k = row
    · rw [if_pos hk, if_pos hk, zeroRow_getD, hfill]; rfl
    · rw [if_neg hk, if_neg hk]
  · have hrows : Glyph.withRow x k values = { x with rows := Table.insert k (.written values) x.rows } := by
      simp [Glyph.withRow, hz]
    rw [hrows]
    simp only [coverageIn, Table.find_insert]
    by_cases hk : k = row
    · rw [if_pos hk, if_pos hk]
    · rw [if_neg hk, if_neg hk]

theorem coverageIn_withRows (x : Glyph) (hx : RowsRising x) (n first row column : Nat) (rows : List (List Nat)) :
    coverageIn (Glyph.withRows x first rows) n row column =
      if first ≤ row ∧ row < first + rows.length then (rows.getD (row - first) []).getD column 0
      else coverageIn x n row column := by
  induction rows generalizing x first with
  | nil => rw [if_neg (by simp only [List.length_nil]; omega)]; rfl
  | cons r rs ih =>
    rw [Glyph.withRows, ih _ (hx.withRow first r), coverageIn_withRow x hx, List.length_cons]
    rcases Nat.lt_trichotomy row first with h | rfl | h
    · rw [if_neg (by omega), if_neg (by omega), if_neg (by omega)]
    · rw [if_neg (by omega), if_pos rfl, if_pos (by omega), Nat.sub_self]; rfl
    · have hsub : row - first = row - (first + 1) + 1 := by omega
      rw [hsub, List.getD_cons_succ]
      by_cases hin : row < first + 1 + rs.length
      · rw [if_pos (by omega), if_pos (by omega)]
      · rw [if_neg (by omega), if_neg (by omega), if_neg (by omega)]

theorem withRows_widths (x : Glyph) (first : Nat) (rows : List (List Nat)) :
    (Glyph.withRows x first rows).widths = x.widths ∧ (Glyph.withRows x first rows).fill = x.fill := by
  induction rows generalizing x first with
  | nil => exact ⟨rfl, rfl⟩
  | cons r rs ih => exact ih _ _

/-- Spec 04 R49: the completed GLYPH_ROWS. -/
theorem glyphAt_writeRows (g : GlyphStore) (f : RowsFields) (slot n : Nat) (h : GlyphStoresSound g) :
    glyphAt (writeRows g f slot) n =
      if slot = n then Glyph.withRows (glyphAt g slot) f.first.toNat (f.rows.map rowColumns) else glyphAt g n :=
  glyphAt_setGlyph g slot n _ h.1

theorem widths_writeRows (g : GlyphStore) (f : RowsFields) (slot n : Nat) (h : GlyphStoresSound g) :
    advanceOf (writeRows g f slot) n = advanceOf g n ∧ bitmapOf (writeRows g f slot) n = bitmapOf g n := by
  unfold advanceOf bitmapOf
  rw [glyphAt_writeRows g f slot n h]
  split
  · rename_i hn
    obtain ⟨hw, hf⟩ := withRows_widths (glyphAt g slot) f.first.toNat (f.rows.map rowColumns)
    rw [hw, hf, hn]
    exact ⟨rfl, rfl⟩
  · exact ⟨rfl, rfl⟩

theorem coverageOf_writeRows (g : GlyphStore) (f : RowsFields) (slot n row column : Nat) (h : GlyphStoresSound g) :
    coverageOf (writeRows g f slot) n row column =
      if n = slot ∧ f.first.toNat ≤ row ∧ row < f.first.toNat + f.rows.length then
        (rowColumns (f.rows.getD (row - f.first.toNat) [])).getD column 0
      else coverageOf g n row column := by
  rw [coverageOf_eq, glyphAt_writeRows g f slot n h]
  by_cases hn : slot = n
  · subst hn
    have hmap : (f.rows.map rowColumns).getD (row - f.first.toNat) [] =
        rowColumns (f.rows.getD (row - f.first.toNat) []) := by
      simp only [List.getD_eq_getElem?_getD, List.getElem?_map]
      cases f.rows[row - f.first.toNat]? <;> rfl
    rw [if_pos rfl, coverageIn_withRows _ (h.glyphAt slot), List.length_map, hmap]
    simp only [true_and]
    rfl
  · rw [if_neg hn, if_neg fun hh => hn hh.1.symm]
    rfl

/-- Spec 04 R51: the completed FONT_CLEAR. -/
theorem glyphAt_clearRun (g : GlyphStore) (base count n : Nat) (h : GlyphStoresSound g) :
    glyphAt (clearRun g base count) n = if base ≤ n ∧ n < base + count then Glyph.blank .zero else glyphAt g n := by
  induction count generalizing g base with
  | zero => rw [if_neg (by omega)]; rfl
  | succ k ih =>
    rw [clearRun, ih _ _ (h.setGlyph base _ (rowsRising_blank _)), glyphAt_setGlyph g base n _ h.1]
    by_cases hb : base = n
    · rw [if_neg (by omega), if_pos hb, if_pos (by omega)]
    · by_cases hin : base + 1 ≤ n ∧ n < base + 1 + k
      · rw [if_pos hin, if_pos (by omega)]
      · rw [if_neg hin, if_neg hb, if_neg (by omega)]

theorem clearRun_frame (g : GlyphStore) (base count : Nat) : (clearRun g base count).fonts = g.fonts ∧
    (clearRun g base count).maps = g.maps ∧ (clearRun g base count).missing = g.missing := by
  induction count generalizing g base with
  | zero => exact ⟨rfl, rfl, rfl⟩
  | succ k ih => exact ih _ _

theorem StoresSound.glyphs {s : State} (h : StoresSound s) : GlyphStoresSound s.glyphs := by
  obtain ⟨_, _, _, _, _, _, _, hslots, hmaps, hrows⟩ := h
  exact ⟨hslots, hmaps, hrows⟩

/-! ## Takings -/

theorem takeOldest_of_empty (s : State) (h : s.intake.queue = []) : takeOldest s = s := by
  unfold takeOldest
  rw [h]
  cases s.engine.op <;> rfl

theorem takeUpTo_of_fixed (n : Nat) (s : State) (h : takeOldest s = s) : takeUpTo n s = s := by
  induction n with
  | zero => rfl
  | succ n ih => rw [takeUpTo, h, ih]

/-- Takings beyond one for each entry change nothing. -/
theorem takeUpTo_of_le (n : Nat) (s : State) (h : s.intake.queue.length ≤ n) : takeUpTo n s = drainQueue s := by
  induction n using Nat.strongRecOn generalizing s with
  | _ n ih =>
    by_cases hfix : takeOldest s = s
    · rw [takeUpTo_of_fixed n s hfix, drainQueue, takeUpTo_of_fixed _ s hfix]
    · cases hq : s.intake.queue with
      | nil => exact absurd (takeOldest_of_empty s hq) hfix
      | cons e rest =>
        cases ho : s.engine.op with
        | some op => exact absurd (takeOldest_busy s (by rw [ho]; rfl)) hfix
        | none =>
          have hlen : s.intake.queue.length = rest.length + 1 := by rw [hq]; rfl
          obtain ⟨k, rfl⟩ : ∃ k, n = k + 1 := ⟨n - 1, by omega⟩
          have hk := takeOldest_queue_length s k ho (by omega)
          have hr := takeOldest_queue_length s rest.length ho (by omega)
          have hd : drainQueue s = takeUpTo rest.length (takeOldest s) := by rw [drainQueue, hlen, takeUpTo]
          rw [takeUpTo, ih k (by omega) _ hk, hd, ih rest.length (by omega) _ hr]

theorem drainQueue_step (s : State) (e : Entry) (rest : List Entry) (ho : s.engine.op = none)
    (hq : s.intake.queue = e :: rest) : drainQueue s = drainQueue (takeOldest s) := by
  have hlen : s.intake.queue.length = rest.length + 1 := by rw [hq]; rfl
  rw [drainQueue, hlen, takeUpTo]
  exact takeUpTo_of_le _ _ (takeOldest_queue_length s rest.length ho (by omega))

/-- A taking whose removal leaves the active causes is the removal and the entry's examination (spec 02 R21). -/
theorem takeOldest_of_removed (s r : State) (e : Entry) (rest : List Entry) (ho : s.engine.op = none)
    (hq : s.intake.queue = e :: rest) (hr : removeOldest rest s = r) (ha : r.guard.active = s.guard.active) :
    takeOldest s = takeEntry e r := by
  rw [takeOldest_idle s e rest ho hq, hr, ← ha, settleTaking_same]

/-- A taking whose removal takes a cause out recomputes at its end (spec 11 R174, log 29). -/
theorem takeOldest_of_left (s r : State) (e : Entry) (rest : List Entry) (ho : s.engine.op = none)
    (hq : s.intake.queue = e :: rest) (hr : removeOldest rest s = r) (ha : r.guard.active ≠ s.guard.active) :
    takeOldest s = recompute (takeEntry e r) := by
  rw [takeOldest_idle s e rest ho hq, hr, settleTaking, if_neg ha]

theorem removeOldest_of_unlatched (rest : List Entry) (s : State) (h : s.intake.latch = false ∨ rest ≠ []) :
    removeOldest rest s = { s with intake := { s.intake with queue := rest } } := by
  have hc : (rest.isEmpty && s.intake.latch) = false := by
    rcases h with h | h
    · simp [h]
    · cases rest with
      | nil => exact absurd rfl h
      | cons e es => rfl
  simp only [removeOldest, hc, Bool.false_eq_true, if_false]

theorem removeOldest_of_latched (s : State) (h : s.intake.latch = true) :
    removeOldest [] s = clearLatch { s with intake := { s.intake with queue := [] } } := by
  simp [removeOldest, h]

/-- The clearing of the latch takes INTAKE_OVERRUN out where it is AUTO (spec 02 R20, spec 11 R171). -/
theorem clearLatch_eq (s : State) : clearLatch s =
    { s with intake := { s.intake with latch := false }
             guard := { s.guard with active := { s.guard.active with
               intakeOverrun := s.guard.active.intakeOverrun && s.guard.intakeOverrun.latched } } } := by
  unfold clearLatch
  cases hl : s.guard.intakeOverrun.latched with
  | true => simp [causeConfig, hl]
  | false => simp [causeConfig, hl, markCause, CauseSet.put]

/-- Spec 02 R20, R21: the four clauses of a taking. -/
theorem takeOldest_clauses (u : State) (e : Entry) (rest : List Entry) (ho : u.engine.op = none)
    (hq : u.intake.queue = e :: rest) :
    (u.intake.latch = false ∨ rest ≠ [] → takeOldest u = takeEntry e { u with intake := { u.intake with queue := rest } }) ∧
    (u.intake.latch = true → rest = [] →
      ¬(u.guard.active.intakeOverrun = true ∧ u.guard.intakeOverrun.latched = false) →
      takeOldest u = takeEntry e { u with intake := { u.intake with queue := rest, latch := false } }) ∧
    (u.intake.latch = true → rest = [] → u.guard.active.intakeOverrun = true ∧ u.guard.intakeOverrun.latched = false →
      takeOldest u = recompute (takeEntry e
        { u with intake := { u.intake with queue := rest, latch := false }
                 guard := { u.guard with active := { u.guard.active with intakeOverrun := false } } })) := by
  refine ⟨fun h => takeOldest_of_removed u _ e rest ho hq (removeOldest_of_unlatched rest u h) rfl, ?_, ?_⟩
  · rintro hl rfl hstay
    have hr := removeOldest_of_latched u hl
    have hsame : (u.guard.active.intakeOverrun && u.guard.intakeOverrun.latched) = u.guard.active.intakeOverrun := by
      cases ha : u.guard.active.intakeOverrun <;> cases hc : u.guard.intakeOverrun.latched <;> simp_all
    rw [clearLatch_eq] at hr
    simp only [hsame] at hr
    exact takeOldest_of_removed u _ e [] ho hq hr rfl
  · rintro hl rfl ⟨ha, hc⟩
    have hr := removeOldest_of_latched u hl
    rw [clearLatch_eq] at hr
    simp only [ha, hc, Bool.and_false] at hr
    refine takeOldest_of_left u _ e [] ho hq hr fun h => ?_
    have := congrArg CauseSet.intakeOverrun h
    simp only [ha] at this
    cases this

/-! ## Completions -/

theorem exec_glyphRowsCompletion (among : List Meanwhile) (s : State) (f : RowsFields) (slot : Nat)
    (hpin : s.pins.resetLow = false) (ho : s.engine.op = some (.glyphRows f slot)) :
    exec (.glyphRowsCompletion among) s = .next (finishOp (.glyphRows f slot) among s) := by
  refine (whileRunning_high _ s hpin).trans ?_
  simp only [completeGlyphRows, ho]

theorem exec_fontClearCompletion (among : List Meanwhile) (s : State) (font base count : Nat)
    (hpin : s.pins.resetLow = false) (ho : s.engine.op = some (.fontClear font base count)) :
    exec (.fontClearCompletion among) s = .next (finishOp (.fontClear font base count) among s) := by
  refine (whileRunning_high _ s hpin).trans ?_
  simp only [completeFontClear, ho]

/-- With nothing waiting a completion is its write to the glyphs alone. -/
theorem finishOp_of_empty (op : InFlight) (s : State) (hq : s.intake.queue = []) : finishOp op [] s =
    { s with glyphs := completeOp s.glyphs op, engine := { s.engine with op := none } } := by
  have hfix := takeOldest_of_empty { s with glyphs := completeOp s.glyphs op, engine := { s.engine with op := none } } hq
  rw [finishOp, hfix, meanwhileAll, drainQueue, takeUpTo_of_fixed _ _ hfix]

/-- Settles O26: the writes of the two completions, the events as their own rows, and the takings' clauses. -/
theorem completionsWriteTheGlyphs : Obligations.CompletionsWriteTheGlyphs := by
  refine ⟨fun s hpin hq hs => ⟨fun f slot ho => ?_, fun font base count ho => ?_⟩, fun among s hpin =>
    ⟨fun f slot ho => exec_glyphRowsCompletion among s f slot hpin ho,
      fun font base count ho => exec_fontClearCompletion among s font base count hpin ho⟩,
    fun _ => rfl, fun _ _ _ => rfl, fun e u hu => if_pos hu, fun u hu => ?_, fun u hu => ?_, fun u e rest ho hq => ?_⟩
  · have hg : GlyphStoresSound s.glyphs := StoresSound.glyphs hs
    refine ⟨writeRows s.glyphs f slot, ?_, fun n => widths_writeRows s.glyphs f slot n hg,
      fun n row column => coverageOf_writeRows s.glyphs f slot n row column hg, rfl, rfl, rfl⟩
    rw [exec_glyphRowsCompletion [] s f slot hpin ho, finishOp_of_empty _ s hq]
    rfl
  · have hg : GlyphStoresSound s.glyphs := StoresSound.glyphs hs
    have hread := fun n => glyphAt_clearRun s.glyphs base count n hg
    refine ⟨clearRun s.glyphs base count, ?_, fun n h1 h2 => ?_, fun n hn => ?_, clearRun_frame s.glyphs base count⟩
    · rw [exec_fontClearCompletion [] s font base count hpin ho, finishOp_of_empty _ s hq]
      rfl
    · have hblank : glyphAt (clearRun s.glyphs base count) n = Glyph.blank .zero := by rw [hread, if_pos ⟨h1, h2⟩]
      refine ⟨?_, ?_, fun row column => ?_⟩
      · rw [advanceOf, hblank]; rfl
      · rw [bitmapOf, hblank]; rfl
      · rw [coverageOf_eq, hblank]; rfl
    · rw [hread, if_neg (by omega)]
  · have hevent : ∀ f : State → State, whileRunning f u = .next (f u) := fun f => whileRunning_high f u hu
    refine ⟨by simp [meanwhile, hu], fun p => ?_, fun fs blanking => ?_, ?_, fun order => ?_, fun programme => ?_, ?_,
      fun p a bytes r hk hb hr hq hl => ?_⟩
    · rw [exec_packetArrival, hevent]; simp [meanwhile, hu]
    · refine (hevent _).trans ?_; simp [meanwhile, hu]
    · refine (hevent _).trans ?_; simp [meanwhile, hu]
    · refine (hevent _).trans ?_; simp [meanwhile, hu]
    · refine (hevent _).trans ?_; simp [meanwhile, hu]
    · simp only [meanwhile, hu, Bool.false_eq_true, if_false]; rfl
    · rw [exec_packetArrival, hevent, arrive_of_route p r a bytes u hk hb hr, offer, if_pos ⟨hq, hl⟩]
      rfl
  · have hfix : takeOldest u = u := hu.elim (takeOldest_busy u) (takeOldest_of_empty u)
    exact ⟨hfix, takeUpTo_of_fixed _ u hfix⟩
  · exact ⟨drainQueue_step u e rest ho hq, takeOldest_clauses u e rest ho hq⟩

end Sys2Proof.Machine
end

section
/-! PROOFS. The staging refill (spec 07 section 7.3, spec 08 R125): the walk over a list's entries, and what an attempt
leaves. -/

namespace Sys2Proof.Machine

open Sys2Proof

/-! ## Measurement -/

theorem advanceTotal_eq_sum (g : GlyphStore) (f : Nat) (codes : List Byte) :
    advanceTotal g f codes = (codes.map fun c => ((lookup g f c).map (advanceOf g)).getD 0).sum := by
  induction codes with
  | nil => rfl
  | cons c cs ih =>
    rw [advanceTotal, ih, List.map_cons, List.sum_cons]
    cases lookup g f c <;> rfl

/-- Spec 04 R54: the mapped glyph, then the default glyph. -/
theorem lookup_of_font (g : GlyphStore) (f : Nat) (c : Byte) (d : FontDef) (hd : g.fonts.get f = some d) :
    lookup g f c = (((Table.get none (g.maps.get f) c.toNat).filter (· < d.count)).or
      (d.defaultGlyph.filter (· < d.count))).map (d.base + ·) := by
  unfold lookup
  rw [hd]
  cases Table.get none (g.maps.get f) c.toNat with
  | none => cases hdef : d.defaultGlyph with
    | none => simp [hdef]
    | some j => by_cases hj : j < d.count <;> simp [hdef, Option.filter, hj]
  | some i =>
    by_cases hi : i < d.count
    · simp [Option.filter, hi]
    · cases hdef : d.defaultGlyph with
      | none => simp [hdef, Option.filter, hi]
      | some j => by_cases hj : j < d.count <;> simp [hdef, Option.filter, hi, hj]

/-! ## The walk -/

/-- `fs` are the entries of `bad`, each with the fault of its failed test. -/
inductive FaultsOf (s : State) (l : Lane) : List Nat → List (Nat × StagingFault) → Prop where
  | nil : FaultsOf s l [] []
  | cons {n : Nat} {f : Nat × StagingFault} {bad : List Nat} {fs : List (Nat × StagingFault)}
      (hf : f.1 = n ∧ testEntry s l n = .error f.2) (hfs : FaultsOf s l bad fs) : FaultsOf s l (n :: bad) (f :: fs)

theorem FaultsOf.length_eq {s : State} {l : Lane} {bad : List Nat} {fs : List (Nat × StagingFault)}
    (h : FaultsOf s l bad fs) : bad.length = fs.length := by
  induction h with
  | nil => rfl
  | cons _ _ ih => exact congrArg (· + 1) ih

/-- Every entry of a list fails its tests. -/
abbrev AllFail (s : State) (l : Lane) (ns : List Nat) : Prop := ∀ n ∈ ns, ∃ f, testEntry s l n = .error f

theorem walk_of_fails (s : State) (l : Lane) (ns : List Nat) (h : AllFail s l ns) :
    ∃ fs, walk s l ns = ⟨fs, none⟩ ∧ FaultsOf s l ns fs := by
  induction ns with
  | nil => exact ⟨[], rfl, .nil⟩
  | cons n ns ih =>
    obtain ⟨f, hf⟩ := h n List.mem_cons_self
    obtain ⟨fs, hw, hfs⟩ := ih fun k hk => h k (List.mem_cons_of_mem n hk)
    exact ⟨(n, f) :: fs, by simp [walk, hf, hw], .cons ⟨rfl, hf⟩ hfs⟩

theorem walk_of_hit (s : State) (l : Lane) (bad rest : List Nat) (n : Nat) (c : Candidate) (h : AllFail s l bad)
    (hc : testEntry s l n = .ok c) :
    ∃ fs, walk s l (bad ++ n :: rest) = ⟨fs, some c⟩ ∧ FaultsOf s l bad fs := by
  induction bad with
  | nil => exact ⟨[], by simp [walk, hc], .nil⟩
  | cons k bad ih =>
    obtain ⟨f, hf⟩ := h k List.mem_cons_self
    obtain ⟨fs, hw, hfs⟩ := ih fun j hj => h j (List.mem_cons_of_mem k hj)
    exact ⟨(k, f) :: fs, by simp [walk, hf, hw], .cons ⟨rfl, hf⟩ hfs⟩

/-! ## Faults passed over -/

theorem recordFaults_faults (l : Lane) (fs : List (Nat × StagingFault)) (h : fs ≠ []) :
    (recordFaults l fs).faults = min (l.faults + fs.length) 65535 := by
  induction fs generalizing l with
  | nil => exact absurd rfl h
  | cons f fs ih =>
    show (recordFaults (recordFault l f) fs).faults = _
    cases fs with
    | nil => rfl
    | cons g gs =>
      rw [ih (recordFault l f) (List.cons_ne_nil g gs)]
      simp only [recordFault, List.length_cons]
      omega

theorem recordFaults_lastFault (l : Lane) (fs : List (Nat × StagingFault)) :
    (recordFaults l fs).lastFault = fs.getLast?.or l.lastFault := by
  induction fs generalizing l with
  | nil => rfl
  | cons f fs ih =>
    show (recordFaults (recordFault l f) fs).lastFault = _
    rw [ih]
    cases fs with
    | nil => rfl
    | cons g gs => rw [List.getLast?_cons_cons]; cases h : (g :: gs).getLast? with
      | none => simp at h
      | some k => rfl

theorem FaultsOf.getLast {s : State} {l : Lane} {bad : List Nat} {fs : List (Nat × StagingFault)}
    (h : FaultsOf s l bad fs) {n : Nat} {f : StagingFault} (hn : bad.getLast? = some n)
    (hf : testEntry s l n = .error f) : fs.getLast? = some (n, f) := by
  induction h with
  | nil => cases hn
  | @cons k g ks gs hkg hrest ih =>
    cases hrest with
    | nil =>
      obtain ⟨hk, he⟩ := hkg
      obtain rfl : k = n := Option.some.inj hn
      rw [hf] at he
      cases he
      rw [← hk]
      rfl
    | cons hab htail =>
      rw [List.getLast?_cons_cons] at hn ⊢
      exact ih hn

/-- What an attempt leaves of the fault counter and the last fault where it has passed over `bad` (spec 07 R100). -/
def PassedOver (s : State) (l : Lane) (bad : List Nat) (faults : Nat) (last : Option (Nat × StagingFault)) : Prop :=
  (bad = [] → faults = l.faults ∧ last = l.lastFault) ∧
  (bad ≠ [] → faults = min (l.faults + bad.length) 65535) ∧
  ∀ n f, bad.getLast? = some n → testEntry s l n = .error f → last = some (n, f)

theorem FaultsOf.passedOver {s : State} {l : Lane} {bad : List Nat} {fs : List (Nat × StagingFault)}
    (h : FaultsOf s l bad fs) : PassedOver s l bad (recordFaults l fs).faults (recordFaults l fs).lastFault := by
  refine ⟨fun hb => ?_, fun hb => ?_, fun n f hn hf => ?_⟩
  · subst hb; cases h; exact ⟨rfl, rfl⟩
  · have hlen : bad.length = fs.length := h.length_eq
    have hfs : fs ≠ [] := fun hfs => hb (List.length_eq_zero_iff.1 (by rw [hlen, hfs]; rfl))
    rw [recordFaults_faults l fs hfs, hlen]
  · rw [recordFaults_lastFault, h.getLast hn hf]; rfl

theorem recordFaults_eq (l : Lane) (fs : List (Nat × StagingFault)) : recordFaults l fs =
    { l with faults := (recordFaults l fs).faults, lastFault := (recordFaults l fs).lastFault } := by
  obtain ⟨n, r, h, -⟩ := recordFaults_frame l fs
  rw [h]

/-! ## Attempts -/

theorem refill_contexts (s : State) (l : Lane) (hr : l.state = .running) (hs : l.slot = none)
    (hp : l.mode = .loop ∨ l.passEnd = false) : refill s l = refillContexts s l l.interjections := by
  have h1 : ¬(l.state ≠ .running ∨ l.slot.isSome = true) := by simp [hr, hs]
  have h2 : ¬(l.mode = .singlePass ∧ l.passEnd = true) := by
    rcases hp with h | h <;> simp [h]
  rw [refill, if_neg h1, if_neg h2]

theorem refill_base (s : State) (l : Lane) (hr : l.state = .running) (hs : l.slot = none)
    (hp : l.mode = .loop ∨ l.passEnd = false) (hi : l.interjections = []) : refill s l = refillBase s l := by
  rw [refill_contexts s l hr hs hp, hi, refillContexts]
  exact congrArg (refillBase s) (by cases l; cases hi; rfl)

/-- LOOP: the walk goes round the list once from the cursor on (spec 07 R102). -/
theorem refillBase_loop_hit (s : State) (l : Lane) (fs : List (Nat × StagingFault)) (c : Candidate)
    (hm : l.mode = .loop) (hb : l.base ≠ [])
    (hw : walk s l (l.base.drop l.cursor ++ l.base.take l.cursor) = ⟨fs, some c⟩) : refillBase s l =
    ({ recordFaults l fs with
        slot := some (stagedOf s l c (some ((l.cursor + fs.length) % l.base.length))), starved := false
        cursor := ((l.cursor + fs.length) % l.base.length + 1) % l.base.length }, candidateMissing s l c) := by
  simp only [refillBase, hm, List.isEmpty_eq_false_iff.2 hb, hw, Bool.false_eq_true, if_false]

theorem refillBase_loop_miss (s : State) (l : Lane) (fs : List (Nat × StagingFault)) (hm : l.mode = .loop)
    (hb : l.base ≠ []) (hw : walk s l (l.base.drop l.cursor ++ l.base.take l.cursor) = ⟨fs, none⟩) :
    refillBase s l = ({ recordFaults l fs with starved := true }, 0) := by
  simp only [refillBase, hm, List.isEmpty_eq_false_iff.2 hb, hw, Bool.false_eq_true, if_false]

/-- SINGLE_PASS: the walk goes from the cursor to the end of the list (spec 07 R103). -/
theorem refillBase_singlePass_hit (s : State) (l : Lane) (fs : List (Nat × StagingFault)) (c : Candidate)
    (hm : l.mode = .singlePass) (hb : l.base ≠ []) (hw : walk s l (l.base.drop l.cursor) = ⟨fs, some c⟩) :
    refillBase s l = ({ recordFaults l fs with
        slot := some (stagedOf s l c (some (l.cursor + fs.length))), starved := false
        cursor := if decide (l.base.length ≤ l.cursor + fs.length + 1) then 0 else l.cursor + fs.length + 1
        passEnd := l.passEnd || decide (l.base.length ≤ l.cursor + fs.length + 1) }, candidateMissing s l c) := by
  simp only [refillBase, hm, List.isEmpty_eq_false_iff.2 hb, hw, Bool.false_eq_true, if_false]

theorem refillBase_singlePass_miss (s : State) (l : Lane) (fs : List (Nat × StagingFault))
    (hm : l.mode = .singlePass) (hw : walk s l (l.base.drop l.cursor) = ⟨fs, none⟩) :
    refillBase s l = (enterDraining { recordFaults l fs with cursor := 0 }, 0) := by
  by_cases hb : l.base = []
  · rw [hb, List.drop_nil] at hw
    cases hw
    simp only [refillBase, hm, hb, List.isEmpty_nil, if_true, recordFaults, List.foldl_nil]
  · simp only [refillBase, hm, List.isEmpty_eq_false_iff.2 hb, hw, Bool.false_eq_true, if_false]

theorem walk_interjections (s : State) (l : Lane) (is : List Interjection) (ns : List Nat) :
    walk s { l with interjections := is } ns = walk s l ns := by
  induction ns with
  | nil => rfl
  | cons n ns ih => rw [walk, ih, walk]; rfl

theorem recordFaults_interjections (l : Lane) (is : List Interjection) (fs : List (Nat × StagingFault)) :
    recordFaults { l with interjections := is } fs = { recordFaults l fs with interjections := is } := by
  induction fs generalizing l with
  | nil => rfl
  | cons f fs ih => exact ih (recordFault l f)

/-- The contexts below the active one are dealt with whatever the lane's interjections stand at. -/
theorem refillContexts_interjections (s : State) (l : Lane) (is cs : List Interjection) :
    refillContexts s { l with interjections := is } cs = refillContexts s l cs := by
  induction cs generalizing l with
  | nil => rfl
  | cons c cs ih =>
    simp only [refillContexts, walk_interjections, recordFaults_interjections, ih]
    rfl

theorem testEntry_itemNumber {s : State} {l : Lane} {n : Nat} {c : Candidate} (h : testEntry s l n = .ok c) :
    c.itemNumber = n := by
  unfold testEntry at h
  split at h
  · cases h
  · split at h
    · cases h
    · split at h
      · cases h
      · cases h; rfl

/-- The selector an entry is staged with: its item's own, or the lane's default (spec 03 R40). -/
def selectorOf (l : Lane) (i : Item) : Nat := if i.selector ≠ 0 then i.selector else l.config.defaultStyle

theorem testEntry_of_style_error {s : State} {l : Lane} {n : Nat} {i : Item} {f : StagingFault}
    (hi : itemAt s n = some i) (hs : resolveStyle s l i = .error f) : testEntry s l n = .error f := by
  simp only [testEntry, hi, hs]

theorem testEntry_of_body_error {s : State} {l : Lane} {n : Nat} {i : Item} {x : Style} {k : Nat} {f : StagingFault}
    (hi : itemAt s n = some i) (hs : resolveStyle s l i = .ok (k, x)) (hb : testBody s i.body = .error f) :
    testEntry s l n = .error f := by
  simp only [testEntry, hi, hs, hb]

theorem testEntry_of_passed {s : State} {l : Lane} {n : Nat} {i : Item} {x : Style} {k : Nat}
    (hi : itemAt s n = some i) (hs : resolveStyle s l i = .ok (k, x)) (hb : testBody s i.body = .ok ()) :
    testEntry s l n = .ok { item := i, itemNumber := n, style := x, selector := k } := by
  simp only [testEntry, hi, hs, hb]

theorem resolveStyle_eq (s : State) (l : Lane) (i : Item) :
    (selectorOf l i = 0 → resolveStyle s l i = .error .nullStyle) ∧
    (selectorOf l i ≠ 0 → styleAt s (selectorOf l i) = none → resolveStyle s l i = .error .styleAbsent) ∧
    ∀ x, selectorOf l i ≠ 0 → styleAt s (selectorOf l i) = some x →
      (x.owner < max i.owner l.owner → resolveStyle s l i = .error .level) ∧
      (max i.owner l.owner ≤ x.owner → resolveStyle s l i = .ok (selectorOf l i, x)) := by
  have heq : ∀ r, (if selectorOf l i = 0 then .error .nullStyle
      else match styleAt s (selectorOf l i) with
        | none => .error .styleAbsent
        | some x => if x.owner < max i.owner l.owner then .error .level else .ok (selectorOf l i, x)) = r →
      resolveStyle s l i = r := fun r hr => hr
  refine ⟨fun h => heq _ (if_pos h), fun h hx => heq _ ?_, fun x h hx => ⟨fun ho => heq _ ?_, fun ho => heq _ ?_⟩⟩
  · rw [if_neg h, hx]
  · rw [if_neg h, hx]; exact if_pos ho
  · rw [if_neg h, hx]; exact if_neg (Nat.not_lt.2 ho)

/-- Settles O44: each clause runs the walk over the active context, whose faults and candidate are known. -/
theorem refillStagesTheFirstThatPasses : Obligations.RefillStagesTheFirstThatPasses := by
  unfold Obligations.RefillStagesTheFirstThatPasses
  intro staged fails passedOver drained
  have hstaged : ∀ (s : State) (l : Lane) (n : Nat) (c : Candidate) (p : Option Nat), testEntry s l n = .ok c →
      staged s l n c (stagedOf s l c p) (candidateMissing s l c) := fun s l n c p hc =>
    ⟨rfl, testEntry_itemNumber hc, rfl, rfl, rfl, rfl, (clampTo_bounds 1 16383 _ (by decide)).1,
      (clampTo_bounds 1 16383 _ (by decide)).2, missingTotal_countP _ _ _⟩
  have hpassed : ∀ (s : State) (l : Lane) (bad : List Nat) (fs : List (Nat × StagingFault)), FaultsOf s l bad fs →
      passedOver s l bad (recordFaults l fs).faults (recordFaults l fs).lastFault := fun s l bad fs hf => hf.passedOver
  refine ⟨fun m l s h => ?_, fun m l k missed s h => ?_, fun g f => ⟨fun c hg => ?_, fun c d hd => ?_, fun codes => ?_⟩,
    fun s l bad rest n c hr hs hm hi hb hf hc => ?_, fun s l hr hs hm hi hb hf => ?_, fun s l hr hs hm hi hb => ?_,
    fun s l bad rest n c hr hs hm hp hi hb hf hc => ?_, fun s l hr hs hm hp => ?_, fun s l hr hs hm hp hi hf => ?_,
    fun s l i below bad rest n c hr hs hp hi hb hf hc => ?_, fun s l i below hr hs hp hi hf => ?_, fun s l n => ?_⟩
  · rw [refillLane, refill_idle s l h]
    simp [countMissing, setLane]
  · rw [refillLane, h]; rfl
  · rw [lookup, hg]
  · exact lookup_of_font g f c d hd
  · exact advanceTotal_eq_sum g f codes
  · obtain ⟨fs, hw, hfs⟩ := walk_of_hit s l bad rest n c hf hc
    have hlen : bad.length = fs.length := hfs.length_eq
    have hne : l.base ≠ [] := by rintro h; simp [h] at hb
    refine ⟨candidateMissing s l c, stagedOf s l c (some ((l.cursor + bad.length) % l.base.length)), _, _, ?_,
      hstaged s l n c _ hc, rfl, hpassed s l bad fs hfs⟩
    rw [refill_base s l hr hs (.inl hm) hi, refillBase_loop_hit s l fs c hm hne (hb ▸ hw), hlen, recordFaults_eq]
  · obtain ⟨fs, hw, hfs⟩ := walk_of_fails s l _ hf
    refine ⟨_, _, ?_, hpassed s l _ fs hfs⟩
    rw [refill_base s l hr hs (.inl hm) hi, refillBase_loop_miss s l fs hm hb hw, recordFaults_eq]
  · rw [refill_base s l hr hs (.inl hm) hi]
    simp only [refillBase, hm, hb, List.isEmpty_nil, if_true]
    rw [hs]
  · obtain ⟨fs, hw, hfs⟩ := walk_of_hit s l bad rest n c hf hc
    have hlen : bad.length = fs.length := hfs.length_eq
    have hne : l.base ≠ [] := by rintro h; simp [h] at hb
    have hbase : l.base.length = l.cursor + (bad.length + rest.length + 1) := by
      have h1 := congrArg List.length hb
      simp only [List.length_drop, List.length_append, List.length_cons] at h1
      omega
    have hend : l.base.length ≤ l.cursor + fs.length + 1 ↔ rest = [] := by
      rw [← List.length_eq_zero_iff]; omega
    refine ⟨candidateMissing s l c, stagedOf s l c (some (l.cursor + bad.length)), _, _, ?_, hstaged s l n c _ hc, rfl,
      hpassed s l bad fs hfs⟩
    rw [refill_base s l hr hs (.inr hp) hi, refillBase_singlePass_hit s l fs c hm hne (hb ▸ hw), recordFaults_eq, hp]
    simp only [hend, hlen, decide_eq_true_eq, Bool.false_or]
  · rw [refill, if_neg (by simp [hr, hs]), if_pos ⟨hm, hp⟩]
    rfl
  · obtain ⟨fs, hw, hfs⟩ := walk_of_fails s l _ hf
    refine ⟨_, _, ?_, hpassed s l _ fs hfs⟩
    rw [refill_base s l hr hs (.inr hp) hi, refillBase_singlePass_miss s l fs hm hw, recordFaults_eq]
    rfl
  · obtain ⟨fs, hw, hfs⟩ := walk_of_hit s l bad rest n c hf hc
    have hlen : bad.length = fs.length := hfs.length_eq
    have hitems : i.items.length = i.cursor + (bad.length + rest.length + 1) := by
      have h1 := congrArg List.length hb
      simp only [List.length_drop, List.length_append, List.length_cons] at h1
      omega
    have hend : i.items.length ≤ i.cursor + fs.length + 1 ↔ rest = [] := by
      rw [← List.length_eq_zero_iff]; omega
    have hrefill := refill_contexts s l hr hs hp
    rw [hi, refillContexts, hb, hw] at hrefill
    simp only [hend] at hrefill
    by_cases hrest : rest = []
    · refine ⟨candidateMissing s l c, stagedOf s l c none, _, _, ?_, hstaged s l n c _ hc, (if_pos hrest).symm,
        hpassed s l bad fs hfs⟩
      rw [hrefill, if_pos hrest, if_pos hrest, recordFaults_eq]
    · refine ⟨candidateMissing s l c, stagedOf s l c (some (i.cursor + bad.length)), _, _, ?_, hstaged s l n c _ hc,
        (if_neg hrest).symm, hpassed s l bad fs hfs⟩
      rw [hrefill, if_neg hrest, if_neg hrest, recordFaults_eq, hlen]
  · obtain ⟨fs, hw, hfs⟩ := walk_of_fails s l _ hf
    refine ⟨_, _, ?_, hpassed s l _ fs hfs⟩
    have hright := refill_contexts s { l with interjections := below, faults := (recordFaults l fs).faults,
                                               lastFault := (recordFaults l fs).lastFault } hr hs hp
    have hleft := refill_contexts s l hr hs hp
    rw [hi, refillContexts, hw] at hleft
    refine hleft.trans (Eq.trans ?_ hright.symm)
    simp only
    rw [recordFaults_eq]
    exact (refillContexts_interjections s _ below below).symm
  · refine ⟨fun hn => by rw [testEntry, hn], fun i hi => ?_⟩
    obtain ⟨hnull, habsent, hpresent⟩ := resolveStyle_eq s l i
    refine ⟨fun hsel => testEntry_of_style_error hi (hnull hsel), fun hsel hx => testEntry_of_style_error hi (habsent hsel hx),
      fun x hsel hx => ⟨fun ho => testEntry_of_style_error hi ((hpresent x hsel hx).1 ho), fun ho => ?_⟩⟩
    have hstyle := (hpresent x hsel hx).2 ho
    refine ⟨fun offset length hbody => ?_, fun symbol fields hbody => ?_, fun code width hbody => ?_⟩
    · split
      · rename_i h; exact testEntry_of_body_error hi hstyle (by rw [hbody, testBody, if_pos h])
      · rename_i h; exact testEntry_of_passed hi hstyle (by rw [hbody, testBody, if_neg h])
    · split
      · rename_i h; exact testEntry_of_body_error hi hstyle (by rw [hbody, testBody, h]; rfl)
      · rename_i h; exact testEntry_of_passed hi hstyle (by rw [hbody, testBody, if_neg (by simpa using h)])
    · exact testEntry_of_passed hi hstyle (by rw [hbody, testBody])

end Sys2Proof.Machine
end

section
/-! PROOFS. The mixing and drawing of a line (spec 10, spec 11 R178): weights, rows of coverage, layers, and the counting of
clipped entries. -/

namespace Sys2Proof.Machine

open Sys2Proof

/-! ## Mixing (spec 10 R162) -/

theorem mixValue_floor (v c α : Nat) : 256 * mixValue v c α ≤ v * (256 - α) + c * α + 128 ∧
    v * (256 - α) + c * α + 128 < 256 * mixValue v c α + 256 := by
  unfold mixValue
  omega

/-- A weighted sum of two values with weights summing to 256 lies between 256 times each. -/
theorem weighted_bounds (v c α : Nat) (h : α ≤ 256) : min v c * 256 ≤ v * (256 - α) + c * α ∧
    v * (256 - α) + c * α ≤ max v c * 256 := by
  have hsum : ∀ m : Nat, m * (256 - α) + m * α = m * 256 := fun m => by
    rw [← Nat.mul_add, Nat.sub_add_cancel h]
  constructor
  · rw [← hsum (min v c)]
    exact Nat.add_le_add (Nat.mul_le_mul_right _ (Nat.min_le_left v c)) (Nat.mul_le_mul_right _ (Nat.min_le_right v c))
  · rw [← hsum (max v c)]
    exact Nat.add_le_add (Nat.mul_le_mul_right _ (Nat.le_max_left v c)) (Nat.mul_le_mul_right _ (Nat.le_max_right v c))

@[simp] theorem mixValue_zero (v c : Nat) : mixValue v c 0 = v := by unfold mixValue; omega

@[simp] theorem mixValue_full (v c : Nat) : mixValue v c 256 = c := by unfold mixValue; omega

@[simp] theorem alphaOf_zero (o : Nat) : alphaOf o 0 = 0 := by simp [alphaOf]

/-- Settles O17: the floors of the three divisions. -/
theorem mixLiesBetween : Obligations.MixLiesBetween := by
  refine ⟨fun v c α _ => mixValue_floor v c α, fun o k => ?_, fun c => ?_, fun v c α h => ?_, fun v c =>
    ⟨mixValue_zero v c, mixValue_full v c⟩, fun o k ho hk => ⟨?_, alphaOf_zero o, ?_⟩, by decide⟩
  · unfold alphaOf; omega
  · unfold textOpacity; omega
  · obtain ⟨h1, h2⟩ := mixValue_floor v c α
    obtain ⟨h3, h4⟩ := weighted_bounds v c α h
    omega
  · have := Nat.mul_le_mul ho hk
    unfold alphaOf; omega
  · unfold alphaOf; omega

@[simp] theorem mixPixel_zero (p : Pixel) (c : Colour) : mixPixel p c 0 = p := by
  simp [mixPixel]

/-! ## Rows of coverage (spec 10 R157 to R159) -/

/-- The coverage of a column of a row, 0 beyond its end. -/
def cellCoverage (cs : List (Nat × Nat)) (j : Nat) : Nat := (cs[j]?.map Prod.fst).getD 0

theorem fitCells_get (n last : Nat) (cs : List (Nat × Nat)) (j : Nat) (h : j < n) :
    ∃ c, (fitCells n last cs)[j]? = some c ∧ c.1 = cellCoverage cs j ∧ ∀ d, cs[j]? = some d → c = d := by
  induction n generalizing last cs j with
  | zero => exact absurd h (Nat.not_lt_zero j)
  | succ n ih =>
    cases cs with
    | nil =>
      cases j with
      | zero => exact ⟨(0, last), rfl, rfl, nofun⟩
      | succ j =>
        obtain ⟨c, h1, h2, h3⟩ := ih last [] j (Nat.lt_of_succ_lt_succ h)
        exact ⟨c, h1, h2, nofun⟩
    | cons d ds =>
      cases j with
      | zero => exact ⟨d, rfl, rfl, fun e he => Option.some.inj he⟩
      | succ j => exact ih d.2 ds j (Nat.lt_of_succ_lt_succ h)

/-- Spec 10 R158: the coverage of a shifted row. -/
theorem shiftCells_get (p : Nat) (before : Nat × Nat) (cs : List (Nat × Nat)) (j : Nat) (h : j ≤ cs.length) :
    ∃ index, (shiftCells p before cs)[j]? = some ((cellCoverage cs j * (8 - p) +
        (if j = 0 then before.1 else cellCoverage cs (j - 1)) * p + 4) / 8, index) ∧
      ∀ c, cs[j]? = some c → index = c.2 := by
  induction cs generalizing before j with
  | nil =>
    obtain rfl : j = 0 := Nat.le_zero.1 h
    exact ⟨before.2, by simp [shiftCells, cellCoverage], nofun⟩
  | cons c cs ih =>
    cases j with
    | zero => exact ⟨c.2, rfl, fun d hd => by cases hd; rfl⟩
    | succ j =>
      obtain ⟨index, h1, h2⟩ := ih c j (Nat.le_of_succ_le_succ h)
      refine ⟨index, ?_, h2⟩
      rw [shiftCells, List.getElem?_cons_succ, h1, if_neg (Nat.succ_ne_zero j), Nat.add_sub_cancel]
      cases j <;> rfl

/-- The coverage of a column of a glyph in the drawn row. -/
def glyphCoverage (g : GlyphStore) (slot : Nat) (row : Option Nat) (k : Nat) : Nat :=
  match row with
  | some r => if k < bitmapOf g slot then coverageOf g slot r k else 0
  | none => 0

theorem glyphCells_eq (g : GlyphStore) (slot : Nat) (row : Option Nat) (index j n : Nat) :
    glyphCells g slot row index j n = (List.range' j n).map fun k => (glyphCoverage g slot row k, index) := by
  induction n generalizing j with
  | zero => rfl
  | succ n ih =>
    refine Eq.trans ?_ (congrArg (fun t => (glyphCoverage g slot row j, index) :: t) (ih (j + 1)))
    cases row <;> rfl

/-- The columns of one code: those of its glyph, or none where it is missing. -/
def cellsOfCode (g : GlyphStore) (font : Nat) (row : Option Nat) (p : Byte × Nat) : List (Nat × Nat) :=
  match lookup g font p.1 with
  | some n => (List.range (advanceOf g n)).map fun j => (glyphCoverage g n row j, p.2)
  | none => []

theorem codeCells_eq (g : GlyphStore) (font : Nat) (row : Option Nat) (codes : List (Byte × Nat)) :
    codeCells g font row codes = codes.flatMap (cellsOfCode g font row) := by
  induction codes with
  | nil => rfl
  | cons p ps ih =>
    rw [List.flatMap_cons, ← ih, codeCells, cellsOfCode]
    cases lookup g font p.1 with
    | none => rfl
    | some n =>
      refine congrArg (· ++ codeCells g font row ps) ?_
      show glyphCells g n row p.2 0 (advanceOf g n) = (List.range (advanceOf g n)).map _
      rw [List.range_eq_range']
      exact glyphCells_eq g n row p.2 0 (advanceOf g n)

/-- Spec 10 R159: the coverage of a row clipped at a column. -/
theorem cellCoverage_clipCells (clip n : Nat) (cs : List (Nat × Nat)) (j : Nat) :
    cellCoverage (clipCells clip 0 (fitCells n 0 cs)) j = if j < clip ∧ j < n then cellCoverage cs j else 0 := by
  unfold cellCoverage
  rw [clipCells_get]
  by_cases hn : j < n
  · obtain ⟨c, h1, h2, -⟩ := fitCells_get n 0 cs j hn
    rw [h1]
    by_cases hc : j < clip
    · rw [if_pos ⟨hc, hn⟩]
      simpa [Nat.not_le.2 hc, cellCoverage] using h2
    · rw [if_neg fun h => hc h.1]
      simp [Nat.le_of_not_lt hc]
  · rw [if_neg fun h => hn h.2, List.getElem?_eq_none (by rw [fitCells_length]; omega)]
    rfl

/-- The columns of a row of text, from the columns laid (spec 10 R157 to R159). -/
theorem textRow_get (g : GlyphStore) (font : Nat) (row : Option Nat) (codes : List (Byte × Nat)) (laid : List (Nat × Nat))
    (start width clip phase j : Nat) (hlaid : List.replicate start (0, 0) ++ codeCells g font row codes = laid)
    (hj : j ≤ width) :
    let a (i : Nat) : Nat := if i < clip ∧ i < width then cellCoverage laid i else 0
    ∃ index, (textRow g font row codes start width clip phase)[j]? =
        some ((a j * (8 - phase) + (if j = 0 then 0 else a (j - 1)) * phase + 4) / 8, index) ∧
      ∀ c i, j < width → laid[j]? = some (c, i) → index = i := by
  intro a
  have ha : ∀ i, cellCoverage (clipCells clip 0 (fitCells width 0 laid)) i = a i := cellCoverage_clipCells clip width laid
  have hlen : j ≤ (clipCells clip 0 (fitCells width 0 laid)).length := by simpa using hj
  obtain ⟨index, h1, h2⟩ := shiftCells_get phase (0, 0) (clipCells clip 0 (fitCells width 0 laid)) j hlen
  refine ⟨index, ?_, fun c i hw hc => ?_⟩
  · rw [textRow, hlaid, h1, ha, ha]
  · obtain ⟨d, hd, -, heq⟩ := fitCells_get width 0 laid j hw
    have hcell := h2 (if clip ≤ 0 + j then 0 else d.1, d.2) (by rw [clipCells_get, hd]; rfl)
    rw [hcell, heq _ hc]

/-! ## Entries -/

theorem shownCodes_map_fst (e : SnapEntry) : (shownCodes e).map Prod.fst = match e.shown with
    | .text codes => codes
    | .quote codes => (codes.getD []).map Prod.fst
    | .separator c => [c] := by
  unfold shownCodes
  cases e.shown with
  | text codes => simp [painted, Function.comp_def]
  | quote codes => cases codes <;> rfl
  | separator c => rfl

/-! ## Layers at one place -/

/-- A text row over one pixel, inside the picture columns the layer draws. -/
def textPoint (pal : Palette) (k : Nat) (row : List (Nat × Nat)) (origin : Int) (x : Nat) (v : Pixel) : Pixel :=
  if (x : Int) - origin < 0 then v
  else match row[((x : Int) - origin).toNat]? with
    | some (c, i) => if 0 < c then mixPixel v (displayedColour pal i) (alphaOf (textOpacity c) k) else v
    | none => v

theorem textPixel_eq (pal : Palette) (k : Nat) (row : List (Nat × Nat)) (origin lo hi : Int) (x : Nat) (v : Pixel) :
    textPixel pal k row origin lo hi x v = if lo ≤ (x : Int) ∧ (x : Int) < hi then textPoint pal k row origin x v else v := by
  unfold textPixel textPoint
  by_cases hin : lo ≤ (x : Int) ∧ (x : Int) < hi
  · rw [if_pos hin]
    by_cases hneg : (x : Int) - origin < 0
    · rw [if_pos hneg, if_neg (by omega)]
    · refine (if_pos ⟨hin.1, hin.2, by omega⟩).trans (Eq.trans ?_ (if_neg hneg).symm)
      rfl
  · rw [if_neg hin, if_neg fun h => hin ⟨h.1, h.2.1⟩]

/-- The background of an entry over one pixel of the viewport. -/
def backgroundPoint (pal : Palette) (k : Nat) (z : Snapshot) (x : Nat) (v : Pixel) (e : SnapEntry) : Pixel :=
  if 0 ≤ (x : Int) - (z.left + e.position) ∧ (x : Int) - (z.left + e.position) ≤ e.width then
    mixPixel v (displayedColour pal e.style.bandColour) (alphaOf e.style.bandOpacity k)
  else v

/-- The text of an entry over one pixel of the viewport. -/
def entryPoint (g : GlyphStore) (pal : Palette) (k line : Nat) (z : Snapshot) (x : Nat) (v : Pixel) (e : SnapEntry) : Pixel :=
  textPoint pal k (entryRow g z.top z.height line e) ((z.left : Int) + e.position) x v

/-- The band of a lane over one pixel of the viewport. -/
def bandPoint (pal : Palette) (k : Nat) (z : Snapshot) (v : Pixel) : Pixel :=
  match z.band with
  | some (colour, opacity) => mixPixel v (displayedColour pal colour) (alphaOf opacity k)
  | none => v

/-- A pixel of the viewport of a lane whose band holds the line. -/
abbrev InViewport (z : Snapshot) (line x : Nat) : Prop :=
  z.top ≤ line ∧ line < z.top + z.height ∧ z.left ≤ x ∧ x < z.left + z.width

/-- The layers of a lane over one pixel (spec 10 R161). -/
def lanePoint (g : GlyphStore) (pal : Palette) (k line x : Nat) (v : Pixel) (z : Snapshot) : Pixel :=
  if InViewport z line x then
    z.entries.foldl (entryPoint g pal k line z x) (z.entries.foldl (backgroundPoint pal k z x) (bandPoint pal k z v))
  else v

theorem backgroundLayer_get (pal : Palette) (k : Nat) (z : Snapshot) (px : List Pixel) (e : SnapEntry) (i : Nat) :
    (backgroundLayer pal k z px e)[i]? =
      px[i]?.map fun v => if z.left ≤ i ∧ i < z.left + z.width then backgroundPoint pal k z i v e else v := by
  rw [backgroundLayer, fillLayer_get]
  congr 1
  funext v
  unfold backgroundPoint
  split <;> split <;> (try split) <;> first | rfl | omega

theorem entryTextLayer_get (g : GlyphStore) (pal : Palette) (k line : Nat) (z : Snapshot) (px : List Pixel) (e : SnapEntry)
    (i : Nat) : (entryTextLayer g pal k z line px e)[i]? =
      px[i]?.map fun v => if z.left ≤ i ∧ i < z.left + z.width then entryPoint g pal k line z i v e else v := by
  rw [entryTextLayer, textLayer_get]
  congr 1
  funext v
  rw [textPixel_eq, Nat.zero_add]
  unfold entryPoint
  exact ite_congr (propext (by omega)) (fun _ => rfl) fun _ => rfl

theorem foldl_inside {α : Type} (c : Prop) [Decidable c] (f : Pixel → α → Pixel) (as : List α) (v : Pixel) :
    as.foldl (fun u a => if c then f u a else u) v = if c then as.foldl f v else v := by
  by_cases h : c
  · simp only [h, if_true]
  · simp only [h, if_false]
    induction as with
    | nil => rfl
    | cons a as ih => exact ih

theorem laneLayers_get (g : GlyphStore) (pal : Palette) (k line : Nat) (px : List Pixel) (z : Snapshot) (i : Nat) :
    (laneLayers g pal k line px z)[i]? = px[i]?.map fun v => lanePoint g pal k line i v z := by
  unfold laneLayers
  by_cases hband : z.top ≤ line ∧ line < z.top + z.height
  · have hb : inBand z line = true := decide_eq_true hband
    have hview : InViewport z line i ↔ z.left ≤ i ∧ i < z.left + z.width := by unfold InViewport; omega
    have hlayers : ∀ p1 : List Pixel,
        p1[i]? = px[i]?.map (fun v => if z.left ≤ i ∧ i < z.left + z.width then bandPoint pal k z v else v) →
        (z.entries.foldl (entryTextLayer g pal k z line) (z.entries.foldl (backgroundLayer pal k z) p1))[i]? =
          px[i]?.map fun v => lanePoint g pal k line i v z := by
      intro p1 hp1
      rw [foldl_layers _ (fun x v e => if z.left ≤ x ∧ x < z.left + z.width then entryPoint g pal k line z x v e else v)
          (fun qx e x => entryTextLayer_get g pal k line z qx e x),
        foldl_layers _ (fun x v e => if z.left ≤ x ∧ x < z.left + z.width then backgroundPoint pal k z x v e else v)
          (fun qx e x => backgroundLayer_get pal k z qx e x), hp1, Option.map_map, Option.map_map]
      congr 1
      funext v
      simp only [Function.comp_apply, foldl_inside, lanePoint, hview]
      split <;> rfl
    simp only [hb, if_true]
    cases hz : z.band with
    | none => exact hlayers px (by simp [bandPoint, hz])
    | some b =>
      obtain ⟨colour, opacity⟩ := b
      refine hlayers _ ?_
      rw [fillLayer_get]
      congr 1
      funext v
      simp only [bandPoint, hz]
      exact ite_congr (propext (by omega)) (fun _ => rfl) fun _ => rfl
  · have hb : inBand z line = false := decide_eq_false hband
    simp only [hb, Bool.false_eq_true, if_false, lanePoint]
    have hout : ¬InViewport z line i := fun h => hband ⟨h.1, h.2.1⟩
    simp [hout]

/-- At key level 0 a lane leaves the pixel as it is. -/
theorem lanePoint_zero (g : GlyphStore) (pal : Palette) (line x : Nat) (v : Pixel) (z : Snapshot) :
    lanePoint g pal 0 line x v z = v := by
  have hfold : ∀ (f : Pixel → SnapEntry → Pixel) (u : Pixel), (∀ u e, f u e = u) → z.entries.foldl f u = u := by
    intro f u hf
    induction z.entries with
    | nil => rfl
    | cons e es ih => rw [List.foldl_cons, hf, ih]
  have hband : bandPoint pal 0 z v = v := by
    unfold bandPoint
    cases z.band <;> simp
  have hback : ∀ u e, backgroundPoint pal 0 z x u e = u := fun u e => by simp [backgroundPoint]
  have htext : ∀ u e, entryPoint g pal 0 line z x u e = u := fun u e => by
    unfold entryPoint textPoint
    split
    · rfl
    · split <;> simp
  unfold lanePoint
  split
  · rw [hfold _ _ htext, hfold _ _ hback, hband]
  · rfl

/-! ## The line at one place -/

/-- The programme pixel under the lanes: spec 01 R10. -/
def programmePoint (fr : OutFrame) (programme : Option (List Pixel)) (x : Nat) : Pixel :=
  if fr.following then (programme.getD [])[x]?.getD blackPixel else blackPixel

theorem programmeLine_get (fr : OutFrame) (programme : Option (List Pixel)) (x : Nat) (hx : x < activeWidth fr.format) :
    (programmeLine fr programme)[x]? = some (programmePoint fr programme x) := by
  unfold programmeLine programmePoint
  cases programme with
  | none =>
    refine (fitLine_get _ [] x hx).trans ?_
    cases fr.following <;> rfl
  | some p =>
    cases fr.following
    · exact fitLine_get _ [] x hx
    · exact fitLine_get _ p x hx

theorem programmeLine_length (fr : OutFrame) (programme : Option (List Pixel)) :
    (programmeLine fr programme).length = activeWidth fr.format := by
  unfold programmeLine
  cases programme with
  | none => exact fitLine_length _ _
  | some p => cases fr.following <;> exact fitLine_length _ _

/-- The slate's text as an entry of its region: spec 11 R178. -/
def slateEntry (c : SlateConfig) (f : Format) (r : ResolvedSlate) : SnapEntry :=
  { number := 0, position := (((slateRegion c f).width - r.width) / 2 : Nat), phase := 0, width := r.width,
    style := r.style, clipped := false, shown := .text r.codes }

/-- The slate over one pixel (spec 11 R178). -/
def slatePoint (g : GlyphStore) (pal : Palette) (f : Format) (c : SlateConfig) (r : ResolvedSlate) (line x : Nat)
    (v : Pixel) : Pixel :=
  let region := slateRegion c f
  if region.top ≤ line ∧ line < region.top + region.height ∧ region.left ≤ x ∧ x < region.right then
    textPoint pal 256 (entryRow g region.top region.height line (slateEntry c f r))
      ((region.left : Int) + (slateEntry c f r).position) x
      (mixPixel v (displayedColour pal r.style.bandColour) (alphaOf r.style.bandOpacity 256))
  else v

theorem slateLayers_get (g : GlyphStore) (pal : Palette) (f : Format) (c : SlateConfig) (r : ResolvedSlate) (line : Nat)
    (px : List Pixel) (x : Nat) :
    (slateLayers g pal f c r line px)[x]? = px[x]?.map (slatePoint g pal f c r line x) := by
  unfold slateLayers slatePoint
  by_cases hline : (slateRegion c f).top ≤ line ∧ line < (slateRegion c f).top + (slateRegion c f).height
  · dsimp only
    rw [if_pos hline, textLayer_get, fillLayer_get, Option.map_map]
    congr 1
    funext v
    rw [Function.comp_apply, textPixel_eq]
    by_cases hx : (slateRegion c f).left ≤ x ∧ x < (slateRegion c f).right
    · rw [if_pos (by omega), if_pos (by omega), if_pos ⟨hline.1, hline.2, hx⟩, Nat.zero_add]
      rfl
    · rw [if_neg (by omega), if_neg (by omega), if_neg (by omega)]
  · dsimp only
    rw [if_neg hline]
    have hout : ∀ v : Pixel, ¬((slateRegion c f).top ≤ line ∧ line < (slateRegion c f).top + (slateRegion c f).height ∧
        (slateRegion c f).left ≤ x ∧ x < (slateRegion c f).right) := fun _ h => hline ⟨h.1, h.2.1⟩
    cases px[x]? with
    | none => rfl
    | some v => exact congrArg some (if_neg (hout v)).symm

/-- The lanes over one pixel, in order (spec 10 R161). -/
def lanesPoint (s : State) (pal : Palette) (line x : Nat) (v : Pixel) : Pixel :=
  match s.renderer.frameSet with
  | some q => q.toList.foldl (lanePoint s.glyphs pal s.keyer.level line x) v
  | none => v

/-- The slate where it is shown, over one pixel. -/
def slatesPoint (s : State) (pal : Palette) (f : Format) (line x : Nat) (v : Pixel) : Pixel :=
  match s.guard.resolved, s.guard.slate with
  | some r, some c => slatePoint s.glyphs pal f c r line x v
  | _, _ => v

theorem slateLayer_get (s : State) (pal : Palette) (f : Format) (line : Nat) (px : List Pixel) (x : Nat) :
    (slateLayer s pal f line px)[x]? = px[x]?.map (slatesPoint s pal f line x) := by
  unfold slateLayer slatesPoint
  cases s.guard.resolved with
  | none => exact Option.map_id'.symm
  | some r => cases s.guard.slate with
    | none => exact Option.map_id'.symm
    | some c => exact slateLayers_get s.glyphs pal f c r line px x

/-- A line as it leaves the port, pixel by pixel (spec 10 R161, R162). -/
theorem renderLine_get (s : State) (pal : Palette) (fr : OutFrame) (line : Nat) (programme : Option (List Pixel)) (x : Nat) :
    (renderLine s pal fr line programme)[x]? = (programmeLine fr programme)[x]?.map fun v =>
      slatesPoint s pal fr.format line x (lanesPoint s pal line x v) := by
  unfold renderLine lanesPoint
  rw [slateLayer_get]
  cases s.renderer.frameSet with
  | none => rfl
  | some q =>
    refine (congrArg _ (foldl_layers _ (fun i v z => lanePoint s.glyphs pal s.keyer.level line i v z)
      (fun qx z i => laneLayers_get s.glyphs pal s.keyer.level line qx z i) q.toList _ x)).trans ?_
    rw [Option.map_map]
    rfl

theorem renderLine_length (s : State) (pal : Palette) (fr : OutFrame) (line : Nat) (programme : Option (List Pixel)) :
    (renderLine s pal fr line programme).length = activeWidth fr.format := by
  have hnone : ∀ i, (renderLine s pal fr line programme)[i]? = none ↔ (programmeLine fr programme)[i]? = none := fun i => by
    rw [renderLine_get, Option.map_eq_none_iff]
  have h1 := hnone (renderLine s pal fr line programme).length
  have h2 := hnone (programmeLine fr programme).length
  rw [List.getElem?_eq_none_iff, List.getElem?_eq_none_iff] at h1 h2
  rw [← programmeLine_length fr programme]
  omega

theorem lanesPoint_zero (s : State) (pal : Palette) (line x : Nat) (v : Pixel) (hk : s.keyer.level = 0) :
    lanesPoint s pal line x v = v := by
  unfold lanesPoint
  rw [hk]
  cases s.renderer.frameSet with
  | none => rfl
  | some q => simp only [Quad.toList, List.foldl_cons, List.foldl_nil, lanePoint_zero]

/-! ## Counting of clipping (spec 10 R160) -/

/-- The entries of a snapshot that a line of its band counts as clipped. -/
def countedOf (g : GlyphStore) (l : Lane) (es : List SnapEntry) : List SnapEntry :=
  es.filter fun e => isClipped g e && !e.clipped && !markedOnScreen l e.number

/-- A placed entry marked where its number is among those counted. -/
def markPlaced (ns : List Nat) (p : Placed) : Placed :=
  if p.number ∈ ns then { p with entry := { p.entry with clipped := true } } else p

/-- An entry of the frame set marked where its number is among those counted. -/
def markShown (ns : List Nat) (e : SnapEntry) : SnapEntry := if e.number ∈ ns then { e with clipped := true } else e

theorem markedOnScreen_mark (l : Lane) (n k : Nat) (c : Counter) (h : k ≠ n) :
    markedOnScreen { markOnScreen l n with clipped := c } k = markedOnScreen l k := by
  unfold markedOnScreen markOnScreen
  simp only [List.any_map]
  congr 1
  funext p
  simp only [Function.comp_apply]
  by_cases hp : p.number = n
  · have : (n == k) = false := beq_eq_false_iff_ne.2 h.symm
    simp [hp, this]
  · simp [hp]

theorem judgeEntries_eq (g : GlyphStore) (l : Lane) (es : List SnapEntry) (h : (es.map SnapEntry.number).Nodup) :
    judgeEntries g l es =
      ({ l with screen := l.screen.map (markPlaced ((countedOf g l es).map SnapEntry.number))
                clipped := l.clipped + BitVec.ofNat 32 (countedOf g l es).length },
        es.map (markShown ((countedOf g l es).map SnapEntry.number))) := by
  induction es generalizing l with
  | nil =>
    have hid : markPlaced [] = id := by funext p; simp [markPlaced]
    simp [judgeEntries, countedOf, hid]
  | cons e es ih =>
    obtain ⟨hnot, hnd⟩ := List.nodup_cons.1 h
    have hother : ∀ f ∈ es, f.number ≠ e.number := fun f hf he => hnot (he ▸ List.mem_map_of_mem hf)
    by_cases hc : (isClipped g e && !e.clipped && !markedOnScreen l e.number) = true
    · have hcounted : countedOf g { markOnScreen l e.number with clipped := l.clipped + 1 } es = countedOf g l es :=
        List.filter_congr fun f hf => by rw [markedOnScreen_mark l e.number f.number _ (hother f hf)]
      have hall : countedOf g l (e :: es) = e :: countedOf g l es := List.filter_cons_of_pos hc
      simp only [judgeEntries, judgeEntry, hc, if_true]
      have hscreen : (markOnScreen l e.number).screen.map (markPlaced ((countedOf g l es).map SnapEntry.number)) =
          l.screen.map (markPlaced ((e :: countedOf g l es).map SnapEntry.number)) := by
        simp only [markOnScreen, List.map_map]
        congr 1
        funext p
        by_cases hp : p.number = e.number <;> simp [markPlaced, hp]
      have hshown : es.map (markShown ((countedOf g l es).map SnapEntry.number)) =
          es.map (markShown ((e :: countedOf g l es).map SnapEntry.number)) :=
        List.map_congr_left fun f hf => by simp [markShown, hother f hf]
      have hclip : l.clipped + 1 + BitVec.ofNat 32 (countedOf g l es).length =
          l.clipped + BitVec.ofNat 32 (e :: countedOf g l es).length := by
        rw [List.length_cons, BitVec.ofNat_add, BitVec.add_assoc, BitVec.add_comm 1]
        rfl
      have hself : markShown ((e :: countedOf g l es).map SnapEntry.number) e = { e with clipped := true } :=
        if_pos List.mem_cons_self
      rw [ih _ hnd, hcounted, hall, List.map_cons (l := es), hself, ← hshown, ← hscreen, ← hclip]
      rfl
    · have hall : countedOf g l (e :: es) = countedOf g l es := List.filter_cons_of_neg hc
      have hkeep : markShown ((countedOf g l es).map SnapEntry.number) e = e := by
        refine if_neg fun hm => ?_
        obtain ⟨f, hf, hfe⟩ := List.mem_map.1 hm
        exact hother f (List.mem_filter.1 hf).1 hfe
      have hj : judgeEntry g l e = (l, e) := if_neg hc
      simp only [judgeEntries, hj]
      rw [ih l hnd, hall, List.map_cons, hkeep]

/-- The marking of a lane's entries touches the marks of its list and the clipped counter. -/
theorem judgeEntries_lane (g : GlyphStore) (l : Lane) (es : List SnapEntry) : ∃ screen clipped,
    (judgeEntries g l es).1 = { l with screen := screen, clipped := clipped } ∧ screen.length = l.screen.length := by
  induction es generalizing l with
  | nil => exact ⟨l.screen, l.clipped, rfl, rfl⟩
  | cons e es ih =>
    obtain ⟨screen, clipped, h, hlen⟩ := ih (judgeEntry g l e).1
    refine ⟨screen, clipped, ?_⟩
    have hfst : (judgeEntries g l (e :: es)).1 = (judgeEntries g (judgeEntry g l e).1 es).1 := rfl
    rw [hfst, h, hlen]
    unfold judgeEntry
    split
    · exact ⟨rfl, List.length_map ..⟩
    · exact ⟨rfl, rfl⟩

theorem judgeLane_lane (g : GlyphStore) (line : Nat) (l : Lane) (z : Snapshot) : ∃ screen clipped,
    (judgeLane g line l z).1 = { l with screen := screen, clipped := clipped } ∧ screen.length = l.screen.length := by
  unfold judgeLane
  split
  · exact judgeEntries_lane g l z.entries
  · exact ⟨l.screen, l.clipped, rfl, rfl⟩

theorem judgeLanes_get (g : GlyphStore) (line : Nat) (ls : Quad Lane) (q : Quad Snapshot) (m : Nat) :
    (judgeLanes g line ls q).1.get m = (judgeLane g line (ls.get m) (q.get m)).1 ∧
      (judgeLanes g line ls q).2.get m = (judgeLane g line (ls.get m) (q.get m)).2 := by
  match m with
  | 0 | 1 | 2 | _ + 3 => exact ⟨rfl, rfl⟩

/-- Spec 10 R160: a lane's snapshot with entries of different numbers, judged on a line. -/
theorem judgeLane_eq (g : GlyphStore) (line : Nat) (l : Lane) (z : Snapshot) (h : (z.entries.map SnapEntry.number).Nodup)
    (counted : List SnapEntry) (hc : counted = if inBand z line then countedOf g l z.entries else []) :
    judgeLane g line l z =
      ({ l with screen := l.screen.map (markPlaced (counted.map SnapEntry.number))
                clipped := l.clipped + BitVec.ofNat 32 counted.length },
        { z with entries := z.entries.map (markShown (counted.map SnapEntry.number)) }) := by
  unfold judgeLane
  by_cases hb : inBand z line = true
  · rw [if_pos hb] at hc ⊢
    rw [judgeEntries_eq g l z.entries h, hc]
  · rw [if_neg hb] at hc ⊢
    have h1 : markPlaced [] = id := by funext p; simp [markPlaced]
    have h2 : markShown [] = id := by funext p; simp [markShown]
    subst hc
    simp [h1, h2]

/-! ## DRAW_LINE -/

theorem drawLine_eq (programme : Option (List Pixel)) (fr : OutFrame) (s : State) (hf : s.timing.frame = some fr)
    (hn : s.renderer.nextLine < activeLines fr.format) : drawLine programme s = drawNext s fr programme := by
  simp only [drawLine, hf, hn, if_true]

theorem countClipping_none (line : Nat) (s : State) (h : s.renderer.frameSet = none) : countClipping line s = s := by
  simp only [countClipping, h]

theorem countClipping_some (line : Nat) (s : State) (q : Quad Snapshot) (h : s.renderer.frameSet = some q) :
    countClipping line s = { s with
      lanes := (judgeLanes s.glyphs line s.lanes q).1
      renderer := { s.renderer with frameSet := some (judgeLanes s.glyphs line s.lanes q).2 } } := by
  simp only [countClipping, h]

/-- Spec 10 R160: the counting touches the marks and clipped counters of the lanes, and the marks of the frame set. -/
theorem countClipping_lane (line : Nat) (s : State) (m : Nat) :
    (laneOf (countClipping line s) m).screen.length = (laneOf s m).screen.length ∧
      laneOf (countClipping line s) m = { laneOf s m with
        screen := (laneOf (countClipping line s) m).screen, clipped := (laneOf (countClipping line s) m).clipped } := by
  cases h : s.renderer.frameSet with
  | none => rw [countClipping_none line s h]; exact ⟨rfl, rfl⟩
  | some q =>
    rw [countClipping_some line s q h]
    obtain ⟨screen, clipped, hl, hlen⟩ := judgeLane_lane s.glyphs line (s.lanes.get m) (q.get m)
    simp only [laneOf, (judgeLanes_get s.glyphs line s.lanes q m).1, hl]
    exact ⟨hlen, trivial⟩

theorem laidEnd_eq (g : GlyphStore) (e : SnapEntry) : laidEnd g e = match e.shown with
    | .text codes => e.style.padLeft + advanceTotal g e.style.font codes
    | .quote codes => e.style.padLeft + advanceTotal g e.style.font ((codes.getD []).map Prod.fst)
    | .separator c => (e.width - advanceTotal g e.style.font [c]) / 2 + advanceTotal g e.style.font [c] := by
  unfold laidEnd
  rw [shownCodes_map_fst]
  unfold startColumn
  cases e.shown <;> rfl

theorem clipPad_eq (e : SnapEntry) : clipPad e = match e.shown with
    | .separator _ => 0
    | _ => e.style.padRight := by
  unfold clipPad
  cases e.shown <;> rfl

theorem shownCodes_eq (e : SnapEntry) : shownCodes e = match e.shown with
    | .text codes => codes.map fun c => (c, e.style.textColour)
    | .quote codes => codes.getD []
    | .separator c => [(c, e.style.textColour)] := by
  unfold shownCodes
  cases e.shown with
  | text codes => rfl
  | quote codes => cases codes <;> rfl
  | separator c => rfl

theorem clipColumn_eq (e : SnapEntry) : e.width - clipPad e = match e.shown with
    | .separator _ => e.width
    | _ => e.width - e.style.padRight := by
  unfold clipPad
  cases e.shown <;> rfl

theorem glyphRow_of_font (g : GlyphStore) (font top height line : Nat) (row : Option Nat)
    (h : match g.fonts.get font with
      | none => row = none
      | some d =>
        let r : Int := (line : Int) - ((top : Int) + ((height : Int) - (d.height : Int)) / 2)
        (0 ≤ r → r < d.height → row = some r.toNat) ∧ (r < 0 ∨ (d.height : Int) ≤ r → row = none)) :
    glyphRow g font top height line = row := by
  unfold glyphRow
  cases hd : g.fonts.get font with
  | none => rw [hd] at h; exact h.symm
  | some d =>
    rw [hd] at h
    obtain ⟨hin, hout⟩ := h
    by_cases hr : 0 ≤ (line : Int) - ((top : Int) + ((height : Int) - (d.height : Int)) / 2) ∧
        (line : Int) - ((top : Int) + ((height : Int) - (d.height : Int)) / 2) < d.height
    · exact (if_pos hr).trans (hin hr.1 hr.2).symm
    · exact (if_neg hr).trans (hout (by omega)).symm

/-- Settles O16: the line is read pixel by pixel, the counting lane by lane, and a row column by column. -/
theorem drawLineMixesTheNextLine : Obligations.DrawLineMixesTheNextLine := by
  refine ⟨fun programme fr s hpin hf hn => ?_, fun g top height line e row => ?_⟩
  · have hexec : exec (.drawLine programme) s = .next (drawNext s fr programme) := by
      refine (whileRunning_high _ s hpin).trans ?_
      rw [drawLine_eq programme fr s hf hn]
    have hget : ∀ x, x < activeWidth fr.format →
        (renderLine s s.palette fr s.renderer.nextLine programme)[x]? =
          some (slatesPoint s s.palette fr.format s.renderer.nextLine x
            (lanesPoint s s.palette s.renderer.nextLine x (programmePoint fr programme x))) := fun x hx => by
      rw [renderLine_get, programmeLine_get fr programme x hx]; rfl
    have hlen := renderLine_length s s.palette fr s.renderer.nextLine programme
    obtain ⟨ls, q, hmix, hq⟩ := mixLine_frame s.palette fr s.renderer.nextLine programme s
    refine ⟨drawNext s fr programme, renderLine s s.palette fr s.renderer.nextLine programme, hexec, rfl, rfl, hlen,
      ?_, fun hk hr x p hp => ?_, ?_, ?_, fun m => ?_, fun h => ?_, fun z z' hz hz' m hm => ?_⟩
    · exact hget
    · have hx : x < activeWidth fr.format := hlen ▸ (List.getElem?_eq_some_iff.1 hp).1
      have hslate : ∀ v, slatesPoint s s.palette fr.format s.renderer.nextLine x v = v := fun v => by
        simp only [slatesPoint, hr]
      rw [hget x hx, hslate, lanesPoint_zero s _ _ _ _ hk] at hp
      exact (Option.some.inj hp).symm
    · simp only [drawNext, hmix]; exact hq
    · simp only [drawNext, hmix]
    · exact countClipping_lane s.renderer.nextLine s m
    · have h1 : (drawNext s fr programme).lanes = (countClipping s.renderer.nextLine s).lanes := rfl
      rw [h1, countClipping_none s.renderer.nextLine s h]
    · have hcount := countClipping_some s.renderer.nextLine s z hz
      have hz2 : z' = (judgeLanes s.glyphs s.renderer.nextLine s.lanes z).2 := by
        have h1 : (drawNext s fr programme).renderer.frameSet = (countClipping s.renderer.nextLine s).renderer.frameSet := rfl
        rw [h1, hcount] at hz'
        exact (Option.some.inj hz').symm
      have hlane : laneOf (drawNext s fr programme) m =
          (judgeLane s.glyphs s.renderer.nextLine (laneOf s m) (z.get m)).1 := by
        have h1 : (drawNext s fr programme).lanes = (countClipping s.renderer.nextLine s).lanes := rfl
        rw [laneOf, h1, hcount]
        exact (judgeLanes_get s.glyphs s.renderer.nextLine s.lanes z m).1
      have hshown : z'.get m = (judgeLane s.glyphs s.renderer.nextLine (laneOf s m) (z.get m)).2 := by
        rw [hz2]; exact (judgeLanes_get s.glyphs s.renderer.nextLine s.lanes z m).2
      intro snap l hnd end_ blank counted
      have hcounted : counted = if inBand snap s.renderer.nextLine then countedOf s.glyphs l snap.entries else [] := by
        have hclip : ∀ e, isClipped s.glyphs e = decide (e.width < end_ e + blank e) := fun e =>
          congr (congrArg (fun n k => decide (e.width < n + k)) (laidEnd_eq s.glyphs e)) (clipPad_eq e)
        by_cases hb : snap.top ≤ s.renderer.nextLine ∧ s.renderer.nextLine < snap.top + snap.height
        · refine Eq.trans ?_ (if_pos (decide_eq_true hb)).symm
          refine List.filter_congr fun e _ => ?_
          rw [hclip]
          simp only [hb, true_and]
          rfl
        · refine Eq.trans ?_ (if_neg (by simpa [inBand] using hb)).symm
          refine List.filter_eq_nil_iff.2 fun e _ => ?_
          have hout : ¬(snap.top ≤ s.renderer.nextLine ∧ s.renderer.nextLine < snap.top + snap.height ∧
              e.width < end_ e + blank e) := fun h => hb ⟨h.1, h.2.1⟩
          rw [decide_eq_false hout]
          simp
      have hjudge := judgeLane_eq s.glyphs s.renderer.nextLine l snap hnd counted hcounted
      refine ⟨?_, ?_, ?_⟩
      · rw [hlane, hjudge]
      · rw [hlane, hjudge]; rfl
      · rw [hshown, hjudge]; rfl
  · intro codes start clip laid a hrow
    have hrow' : glyphRow g e.style.font top height line = row := glyphRow_of_font g e.style.font top height line row hrow
    have hcodes : shownCodes e = codes := shownCodes_eq e
    have hstart : startColumn g e = start := rfl
    have hclip : e.width - clipPad e = clip := clipColumn_eq e
    have hlaid : List.replicate start (0, 0) ++ codeCells g e.style.font row codes = laid :=
      congrArg (List.replicate start (0, 0) ++ ·) (codeCells_eq g e.style.font row codes)
    refine ⟨textRow_length .., fun j hj => ?_⟩
    have hget := textRow_get g e.style.font row codes laid start e.width clip e.phase j hlaid hj
    have hentry : entryRow g top height line e = textRow g e.style.font row codes start e.width clip e.phase := by
      rw [entryRow, hrow', hcodes, hstart, hclip]
    rw [hentry]
    exact hget

end Sys2Proof.Machine
end

section
/-! PROOFS. The input events (spec 01): the window expiry and the good frame, what they do to the guard, and the search of the
carriage lines. -/

namespace Sys2Proof.Machine

open Sys2Proof

/-! ## Onset and end of a cause -/

/-- What an event that may put a cause in or take it out does to the guard (spec 11 R170, R171, R174, R175): the set it
leaves, nothing where the set is as it was, and the guard's acts where it is not. -/
structure MovesCause (s t : State) (active : CauseSet) : Prop where
  active : t.guard.active = active
  stays : t.guard.active = s.guard.active → t = s
  acts : t.guard.active ≠ s.guard.active → GuardActs s t

theorem put_has (c : CauseSet) (k : Cause) : c.put k (c.has k) = c := by
  cases k <;> rfl

theorem put_ne {c : CauseSet} {k : Cause} {b : Bool} (h : b ≠ c.has k) : c.put k b ≠ c := fun he => by
  have := CauseSet.has_put c k k b
  rw [he, if_pos rfl] at this
  exact h this.symm

theorem movesCause_of_marked (k : Cause) (b : Bool) (s : State) (h : b ≠ s.guard.active.has k) :
    MovesCause s (recompute (markCause k b s)) (s.guard.active.put k b) where
  active := (recompute_leaves _).1
  stays he := absurd ((recompute_leaves (markCause k b s)).1.symm.trans he) (put_ne h)
  acts _ := recompute_markCause_acts k b s

theorem movesCause_of_kept (k : Cause) (b : Bool) (s : State) (h : b = s.guard.active.has k) :
    MovesCause s s (s.guard.active.put k b) where
  active := by rw [h, put_has]
  stays _ := rfl
  acts he := absurd rfl he

/-- Spec 11 R170. -/
theorem causeOnset_moves (k : Cause) (s : State) : MovesCause s (causeOnset k s)
    (s.guard.active.put k (s.guard.active.has k || (causeConfig s.guard k).enabled)) := by
  unfold causeOnset
  cases hm : s.guard.active.has k <;> cases he : (causeConfig s.guard k).enabled
  · exact movesCause_of_kept k _ s (by simp [hm])
  · exact movesCause_of_marked k _ s (by simp [hm])
  · exact movesCause_of_kept k _ s (by simp [hm])
  · exact movesCause_of_kept k _ s (by simp [hm])

/-- Spec 11 R171. -/
theorem causeEnd_moves (k : Cause) (s : State) : MovesCause s (causeEnd k s)
    (s.guard.active.put k (s.guard.active.has k && (causeConfig s.guard k).latched)) := by
  unfold causeEnd
  cases hm : s.guard.active.has k <;> cases hl : (causeConfig s.guard k).latched
  · exact movesCause_of_kept k _ s (by simp [hm])
  · exact movesCause_of_kept k _ s (by simp [hm])
  · exact movesCause_of_marked k _ s (by simp [hm])
  · exact movesCause_of_kept k _ s (by simp [hm])

/-- A part guarded for one cause alone, from NORMAL, fades the key to zero where its action is CLEAR (spec 11 R175). -/
theorem GuardActs.guards_clear {s t : State} (h : GuardActs s t) (k : Cause) (hn : s.guard.state = .normal)
    (hk : t.guard.active.has k = true) (hc : (causeConfig t.guard k).action = .clear) :
    t.guard.state = .guarded .clear ∧ FadesToZero s t := by
  obtain ⟨hnormal, haction, _, _, _, hfade, _⟩ := h
  have hstate : t.guard.state = .guarded .clear := by
    cases ht : t.guard.state with
    | normal => rw [hnormal.1 ht] at hk; cases k <;> cases hk
    | guarded a => rw [(haction a ht).2 ⟨k, hk, hc⟩]
  exact ⟨hstate, (hfade hn hstate).1⟩

/-- A part released hands the key back to the wish (spec 11 R175). -/
theorem GuardActs.releases {s t : State} (h : GuardActs s t) (hs : s.guard.state ≠ .normal) (ht : t.guard.active = .empty) :
    t.guard.state = .normal ∧ t.guard.resolved = none ∧ t.keyer.target = s.keyer.wish ∧ t.keyer.source = .key := by
  obtain ⟨hnormal, _, _, _, _, _, _, _, hrelease, _⟩ := h
  obtain ⟨hr, hk⟩ := hrelease hs (hnormal.2 ht)
  exact ⟨hnormal.2 ht, hr, by rw [hk], by rw [hk]⟩

/-! ## A change of the input unit -/

/-- What the guard unit's acts are measured from is no part of the input unit or the timing. -/
theorem GuardActs.of_putInput {u : InputUnit} {s t : State} (h : GuardActs (putInput u s) t) : GuardActs s t := h

theorem changeInput_leaves (u : InputUnit) (s : State) : (changeInput u s).input = u ∧
    (changeInput u s).timing = { s.timing with mode := modeOf u.state } ∧
    (changeInput u s).glyphs = { s.glyphs with missing := (changeInput u s).glyphs.missing } ∧
    changeInput u s = { s with
      input := u, timing := { s.timing with mode := modeOf u.state }, guard := (changeInput u s).guard
      keyer := (changeInput u s).keyer, glyphs := (changeInput u s).glyphs } := by
  rcases changeInput_cases u s with h | ⟨b, h⟩
  · rw [h]; exact ⟨rfl, rfl, rfl, rfl⟩
  · obtain ⟨_, _, _, _, _, _, hg, hs⟩ := recompute_leaves (markCause .inputLoss b (putInput u s))
    rw [h]
    exact ⟨by rw [hs]; rfl, by rw [hs]; rfl, hg, by rw [hs]; rfl⟩

/-- The guard unit, the key and the glyph store are as they were. -/
def SameGuard (s t : State) : Prop := t.guard = s.guard ∧ t.keyer = s.keyer ∧ t.glyphs = s.glyphs

/-- Spec 01 R14: neither an onset nor an end of INPUT_LOSS. -/
theorem changeInput_same (u : InputUnit) (s : State) (h : s.input.state = .noSignal ↔ u.state = .noSignal) :
    changeInput u s = putInput u s := by
  unfold changeInput
  rw [if_neg fun hh => hh.2 (h.1 hh.1), if_neg fun hh => hh.1 (h.2 hh.2)]

theorem changeInput_lost (u : InputUnit) (s : State) (hs : s.input.state ≠ .noSignal) (hu : u.state = .noSignal) :
    changeInput u s = causeOnset .inputLoss (putInput u s) := by
  unfold changeInput
  rw [if_neg fun hh => hs hh.1, if_pos ⟨hs, hu⟩]

theorem changeInput_found (u : InputUnit) (s : State) (hs : s.input.state = .noSignal) (hu : u.state ≠ .noSignal) :
    changeInput u s = causeEnd .inputLoss (putInput u s) := by
  unfold changeInput
  rw [if_pos ⟨hs, hu⟩]

/-! ## The window expiry -/

theorem exec_frameWindowExpiry (s : State) (h : s.pins.resetLow = false) :
    exec .frameWindowExpiry s = .next (changeInput (expiryInput s.input) s) := whileRunning_high _ s h

theorem expiryInput_noSignal (u : InputUnit) (h : u.state = .noSignal) : expiryInput u = u := by
  simp only [expiryInput, h]

theorem expiryInput_lost (u : InputUnit) (h : u.state ≠ .noSignal) (hf : u.lossFilter ≤ u.missCount + 1) :
    expiryInput u = { u with state := .noSignal, candidate := none, goodCount := 0, missCount := 0 } := by
  have hlt : ¬u.missCount + 1 < u.lossFilter := Nat.not_lt.2 hf
  cases hs : u.state with
  | noSignal => exact absurd hs h
  | acquiring | locked | holdover => simp only [expiryInput, hs, hlt, if_false, loseSignal]

theorem expiryInput_locked (u : InputUnit) (h : u.state = .locked) (hf : u.missCount + 1 < u.lossFilter) :
    expiryInput u = { u with state := .holdover, missCount := u.missCount + 1 } := by
  simp only [expiryInput, h, hf, if_true]

theorem expiryInput_waiting (u : InputUnit) (h : u.state = .holdover ∨ u.state = .acquiring)
    (hf : u.missCount + 1 < u.lossFilter) : expiryInput u = { u with missCount := u.missCount + 1 } := by
  rcases h with h | h <;> simp only [expiryInput, h, hf, if_true]

/-- Spec 01 R7: an expiry never leaves the unit LOCKED. -/
theorem expiryInput_not_locked (u : InputUnit) : (expiryInput u).state ≠ .locked := by
  cases hs : u.state with
  | noSignal => rw [expiryInput_noSignal u hs, hs]; exact fun h => by cases h
  | acquiring | locked | holdover =>
    by_cases hf : u.missCount + 1 < u.lossFilter <;> simp [expiryInput, hs, hf, loseSignal]

theorem expiryInput_noSignal_iff (u : InputUnit) (h : u.state = .noSignal ∨ u.missCount + 1 < u.lossFilter) :
    u.state = .noSignal ↔ (expiryInput u).state = .noSignal := by
  by_cases hn : u.state = .noSignal
  · rw [expiryInput_noSignal u hn]
  · have hf := h.resolve_left hn
    cases hs : u.state with
    | noSignal => exact absurd hs hn
    | acquiring | locked | holdover => simp [expiryInput, hs, hf]

theorem ModeFollowsLock.modeOf_eq {s : State} (h : ModeFollowsLock s) : modeOf s.input.state = s.timing.mode := by
  unfold modeOf
  split
  · rename_i hs; exact (h.2 hs).symm
  · rename_i hs
    cases hm : s.timing.mode with
    | following => exact absurd (h.1 hm) hs
    | flywheel => rfl

/-- Settles O5: the table of the expiry, and the mode of a unit that is not LOCKED. -/
theorem windowExpiryCountsTowardLoss : Obligations.WindowExpiryCountsTowardLoss := by
  intro s hpin
  obtain ⟨hinput, htiming, hglyphs, hframe⟩ := changeInput_leaves (expiryInput s.input) s
  have hmode : modeOf (expiryInput s.input).state = .flywheel := if_neg (expiryInput_not_locked s.input)
  refine ⟨_, exec_frameWindowExpiry s hpin, fun hs hm => ?_, fun hs hf => ?_, fun hs hf => ?_, fun hs hf => ?_,
    fun _ => ?_, hglyphs, ?_⟩
  · have hsame := hm.modeOf_eq
    rw [changeInput_same _ s (expiryInput_noSignal_iff s.input (.inl hs)), expiryInput_noSignal s.input hs, putInput, hsame]
  · rw [hinput, expiryInput_locked s.input hs hf]
  · rw [hinput, expiryInput_waiting s.input hs hf]
  · rw [hinput, expiryInput_lost s.input hs hf]
  · rw [htiming, hmode]; exact ⟨rfl, rfl⟩
  · rw [hinput, htiming]; exact hframe

/-! ## The good frame -/

theorem goodFrameInput_noSignal (f : Format) (u : InputUnit) (h : u.state = .noSignal) : goodFrameInput f u =
    { u with state := .acquiring, candidate := some f, goodCount := 1, missCount := 0 } := by
  simp only [goodFrameInput, h, acquire]

theorem goodFrameInput_not_noSignal (f : Format) (u : InputUnit) : (goodFrameInput f u).state ≠ .noSignal := by
  unfold goodFrameInput
  cases hs : u.state with
  | noSignal => simp [acquire]
  | acquiring =>
    by_cases hc : u.candidate = some f
    · by_cases hg : 2 ≤ u.goodCount + 1 <;> simp [hc, hg, lockOn]
    · simp [hc, acquire]
  | locked | holdover => by_cases hl : u.lockedFormat = some f <;> simp [hl, acquire]

/-- The part after a good frame, before the packets of its carriage lines arrive. -/
def frameTaken (f : Format) (blanking : Blanking) (s : State) : State :=
  followFrame f blanking.lines s.input.state (changeInput (goodFrameInput f s.input) s)

theorem exec_goodFrame (fs : FrameStructure) (blanking : Blanking) (f : Format) (s : State)
    (hpin : s.pins.resetLow = false) (hf : judge fs = some f) : exec (.goodFrame fs blanking) s =
      .next (arriveAll ((packetsOfFrame blanking.lines).take blanking.handed) (frameTaken f blanking s)) := by
  refine (whileRunning_high _ s hpin).trans ?_
  simp only [frameArrives, hf]
  rfl

theorem exec_frame_of_no_format (fs : FrameStructure) (blanking : Blanking) (s : State) (hf : judge fs = none) :
    exec (.goodFrame fs blanking) s = .next s := by
  have hsame : frameArrives fs blanking s = s := by simp only [frameArrives, hf]
  show whileRunning (frameArrives fs blanking) s = .next s
  unfold whileRunning
  rw [hsame]
  split <;> rfl

/-- A followed frame is no matter of the guard unit. -/
theorem followFrame_guard (f : Format) (blanking : List Line) (before : InputState) (s : State) :
    (followFrame f blanking before s).guard = s.guard ∧ (followFrame f blanking before s).keyer = s.keyer ∧
      (followFrame f blanking before s).glyphs = s.glyphs := by
  unfold followFrame
  split <;> exact ⟨rfl, rfl, rfl⟩

theorem GuardActs.of_sameGuard {s t u : State} (h : GuardActs s t) (hu : SameGuard t u) : GuardActs s u := by
  obtain ⟨hg, hk, hgl⟩ := hu
  unfold GuardActs FadesToZero ResolvesSlate at h ⊢
  rw [hg, hk, hgl]
  exact h

/-- Settles O6: INPUT_LOSS joins or leaves with the input state, and the guard's acts are those of the table of R175. -/
theorem inputLossGuardsAndReleases : Obligations.InputLossGuardsAndReleases := by
  have hlost : ∀ s : State, s.input.state ≠ .noSignal → s.input.lossFilter ≤ s.input.missCount + 1 →
      MovesCause (putInput (expiryInput s.input) s) (changeInput (expiryInput s.input) s)
        { s.guard.active with inputLoss := s.guard.active.inputLoss || s.guard.inputLoss.enabled } := fun s hs hf => by
    have hu : (expiryInput s.input).state = .noSignal := by rw [expiryInput_lost s.input hs hf]
    rw [changeInput_lost _ s hs hu]
    exact causeOnset_moves .inputLoss (putInput (expiryInput s.input) s)
  have hfound : ∀ (s : State) (f : Format), s.input.state = .noSignal →
      MovesCause (putInput (goodFrameInput f s.input) s) (changeInput (goodFrameInput f s.input) s)
        { s.guard.active with inputLoss := s.guard.active.inputLoss && s.guard.inputLoss.latched } := fun s f hs => by
    rw [changeInput_found _ s hs (goodFrameInput_not_noSignal f s.input)]
    exact causeEnd_moves .inputLoss (putInput (goodFrameInput f s.input) s)
  have htaken : ∀ (s : State) (f : Format) (blanking : Blanking),
      SameGuard (changeInput (goodFrameInput f s.input) s) (frameTaken f blanking s) := fun s f blanking =>
    followFrame_guard f blanking.lines s.input.state _
  refine ⟨fun s hpin hs hf hcfg hempty hnormal hfade => ?_, fun fs blanking f s hpin hj hs hauto hact hstate => ?_,
    fun s hpin => ⟨_, exec_frameWindowExpiry s hpin, fun h => ?_, fun hs hf => ?_⟩,
    fun fs blanking f s hpin hj => ⟨_, exec_goodFrame fs blanking f s hpin hj, fun hs => ?_, fun hs => ?_⟩⟩
  · have hm := hlost s hs hf
    have hactive : (changeInput (expiryInput s.input) s).guard.active = { CauseSet.empty with inputLoss := true } := by
      rw [hm.active, hempty, hcfg]; rfl
    have hne : (changeInput (expiryInput s.input) s).guard.active ≠ s.guard.active := by
      rw [hactive, hempty]; decide
    have hacts : GuardActs s (changeInput (expiryInput s.input) s) := hm.acts hne
    have hguard : (changeInput (expiryInput s.input) s).guard.inputLoss = s.guard.inputLoss := by
      obtain ⟨_, _, hg, _⟩ := hacts
      rw [hg]
    obtain ⟨hg, hk, hsource⟩ := hacts.guards_clear .inputLoss hnormal (by rw [hactive]; rfl) (by
      show (changeInput (expiryInput s.input) s).guard.inputLoss.action = .clear
      rw [hguard, hcfg])
    refine ⟨_, exec_frameWindowExpiry s hpin, hg, hactive, ?_⟩
    rw [hk, hsource hfade, if_neg hfade]
  · have hm := hfound s f hs
    obtain ⟨hg, hk, _⟩ := htaken s f blanking
    have hempty : (changeInput (goodFrameInput f s.input) s).guard.active = .empty := by
      rw [hm.active, hact, hauto]; rfl
    have hne : (changeInput (goodFrameInput f s.input) s).guard.active ≠ s.guard.active := by
      rw [hempty, hact]; decide
    have hacts : GuardActs s (changeInput (goodFrameInput f s.input) s) := hm.acts hne
    obtain ⟨h1, h2, h3, h4⟩ := hacts.releases (by rw [hstate]; exact nofun) hempty
    exact ⟨_, exec_goodFrame fs blanking f s hpin hj, by rw [hg, h1], by rw [hg, hempty], by rw [hg, h2], by rw [hk, h3],
      by rw [hk, h4]⟩
  · rw [changeInput_same _ s (expiryInput_noSignal_iff s.input h)]
    exact ⟨rfl, rfl, rfl⟩
  · have hm := hlost s hs hf
    exact ⟨hm.active, fun he => by rw [hm.stays he]; exact ⟨rfl, rfl, rfl⟩, fun hne => (hm.acts hne).of_putInput⟩
  · have hsame := changeInput_same (goodFrameInput f s.input) s
      ⟨fun h => absurd h hs, fun h => absurd h (goodFrameInput_not_noSignal f s.input)⟩
    obtain ⟨hg, hk, hgl⟩ := htaken s f blanking
    rw [hg, hk, hgl, hsame]
    exact ⟨rfl, rfl, rfl⟩
  · have hm := hfound s f hs
    have htake := htaken s f blanking
    obtain ⟨hg, hk, hgl⟩ := htake
    rw [hg, hk, hgl]
    exact ⟨hm.active, fun he => by rw [hm.stays he]; exact ⟨rfl, rfl, rfl⟩,
      fun hne => (hm.acts hne).of_putInput.of_sameGuard (htaken s f blanking)⟩

/-! ## The search of a line (spec 01 R6, spec 12 R187) -/

theorem markerKind_iff (a b : Sample) (kind : PacketKind) : markerKind a b = some kind ↔
    a = 0x19A ∧ b = (match kind with
      | .control => 0x14C
      | .report => 0x153) := by
  unfold markerKind
  by_cases ha : a = 0x19A
  · rw [if_pos ha]
    by_cases h1 : b = 0x14C
    · rw [if_pos h1]
      cases kind with
      | control => exact ⟨fun _ => ⟨ha, h1⟩, fun _ => rfl⟩
      | report => exact ⟨nofun, fun h => absurd (h1.symm.trans h.2) (by decide)⟩
    · rw [if_neg h1]
      by_cases h2 : b = 0x153
      · rw [if_pos h2]
        cases kind with
        | control => exact ⟨nofun, fun h => absurd h.2 h1⟩
        | report => exact ⟨fun _ => ⟨ha, h2⟩, fun _ => rfl⟩
      · rw [if_neg h2]
        cases kind with
        | control => exact ⟨nofun, fun h => absurd h.2 h1⟩
        | report => exact ⟨nofun, fun h => absurd h.2 h2⟩
  · rw [if_neg ha]
    exact ⟨nofun, fun h => absurd h.1 ha⟩

/-- A packet found stands at its marker and holds its bytes as far as the line does. -/
def FoundIn (l : Line) (p : FoundAt) : Prop :=
  MarkedAt l p.start p.packet.kind ∧
    let bs : List Byte := (l.drop (p.start + 2)).map fun x => BitVec.ofNat 8 x.toNat
    (∀ n : Byte, bs[4]? = some n → n.toNat + 6 ≤ bs.length →
      p.packet.bytes = bs.take (n.toNat + 6) ∧ p.packet.truncated = false) ∧
    ((∀ n : Byte, bs[4]? = some n → bs.length < n.toNat + 6) → p.packet.bytes = bs ∧ p.packet.truncated = true) ∧
    p.stop = p.start + 2 + p.packet.bytes.length

theorem sampleByte_eq : sampleByte = fun x => BitVec.ofNat 8 x.toNat := by
  funext x
  exact BitVec.eq_of_toNat_eq (by simp [sampleByte])

theorem packetAt_kind (kind : PacketKind) (after : List Sample) : (packetAt kind after).kind = kind := by
  unfold packetAt
  dsimp only
  split
  · split <;> rfl
  · rfl

theorem packetAt_whole (kind : PacketKind) (after : List Sample) (n : Byte) (hn : (after.map sampleByte)[4]? = some n)
    (h : n.toNat + 6 ≤ (after.map sampleByte).length) : packetAt kind after =
      { kind := kind, bytes := (after.map sampleByte).take (n.toNat + 6), truncated := false } := by
  have h6 : 6 + n.toNat ≤ (after.map sampleByte).length := by omega
  simp only [packetAt, packetExtent, hn, Option.map_some, if_pos h6, Nat.add_comm n.toNat 6]

theorem packetAt_cut (kind : PacketKind) (after : List Sample)
    (h : ∀ n : Byte, (after.map sampleByte)[4]? = some n → (after.map sampleByte).length < n.toNat + 6) :
    packetAt kind after = { kind := kind, bytes := after.map sampleByte, truncated := true } := by
  cases hn : (after.map sampleByte)[4]? with
  | none => simp only [packetAt, packetExtent, hn, Option.map_none]
  | some n =>
    have hlt := h n hn
    have h6 : ¬6 + n.toNat ≤ (after.map sampleByte).length := by omega
    simp only [packetAt, packetExtent, hn, Option.map_some, if_neg h6]

theorem packetAt_length_le (kind : PacketKind) (after : List Sample) :
    (packetAt kind after).bytes.length ≤ after.length ∧
      ((packetAt kind after).truncated = true → (packetAt kind after).bytes.length = after.length) := by
  by_cases h : ∀ n : Byte, (after.map sampleByte)[4]? = some n → (after.map sampleByte).length < n.toNat + 6
  · rw [packetAt_cut kind after h, List.length_map]
    exact ⟨Nat.le_refl _, fun _ => rfl⟩
  · obtain ⟨n, hn⟩ := Classical.not_forall.1 h
    obtain ⟨hn, hle⟩ := Classical.not_imp.1 hn
    rw [packetAt_whole kind after n hn (Nat.not_lt.1 hle), List.length_take, List.length_map]
    exact ⟨Nat.min_le_right _ _, nofun⟩

/-- Spec 12 R187: the packet at a marker of a line. -/
theorem foundIn_packetAt (l : Line) (i : Nat) (kind : PacketKind) (hm : MarkedAt l i kind) :
    FoundIn l { start := i, stop := i + (2 + (packetAt kind (l.drop (i + 2))).bytes.length),
                packet := packetAt kind (l.drop (i + 2)) } := by
  refine ⟨by rw [packetAt_kind]; exact hm, ?_⟩
  intro bs
  have hbs : bs = (l.drop (i + 2)).map sampleByte := by rw [sampleByte_eq]
  rw [hbs]
  refine ⟨fun n hn hle => ?_, fun h => ?_, ?_⟩
  · simp only [packetAt_whole kind _ n hn hle, and_self]
  · simp only [packetAt_cut kind _ h, and_self]
  · simp only; omega

/-- What a search finds of a line from a place on, after `controls` control packets. -/
structure SearchesFrom (l : Line) (i controls : Nat) (found : List FoundAt) : Prop where
  each : ∀ p ∈ found, i ≤ p.start ∧ FoundIn l p
  apart : found.Pairwise fun p q => p.stop ≤ q.start ∧ p.packet.truncated = false
  fewer : ∀ q ∈ found, controls + controlsOf (fun p => decide (p.start < q.start)) found < 4
  covers : ∀ j kind, MarkedAt l j kind → i ≤ j → (∃ p ∈ found, p.start ≤ j ∧ j < p.stop) ∨
    4 ≤ controls + controlsOf (fun p => decide (p.stop ≤ j)) found

theorem SearchesFrom.nothing {l : Line} {i controls : Nat}
    (h : 4 ≤ controls ∨ ∀ j kind, i ≤ j → ¬MarkedAt l j kind) : SearchesFrom l i controls [] where
  each := nofun
  apart := .nil
  fewer := nofun
  covers j kind hm hj := .inr (by
    rcases h with h | h
    · exact h
    · exact absurd hm (h j kind hj))

/-- A place without a marker is passed over. -/
theorem SearchesFrom.of_next {l : Line} {i controls : Nat} {found : List FoundAt}
    (h : SearchesFrom l (i + 1) controls found) (hi : ∀ kind, ¬MarkedAt l i kind) : SearchesFrom l i controls found where
  each p hp := ⟨Nat.le_of_succ_le (h.each p hp).1, (h.each p hp).2⟩
  apart := h.apart
  fewer := h.fewer
  covers j kind hm hj := by
    rcases Nat.eq_or_lt_of_le hj with rfl | hlt
    · exact absurd hm (hi kind)
    · exact h.covers j kind hm hlt

theorem controlsOf_cons (f : FoundAt → Bool) (p : FoundAt) (found : List FoundAt) : controlsOf f (p :: found) =
    controlsOf f found + if p.packet.kind = .control ∧ f p = true then 1 else 0 := by
  simp only [controlsOf, List.countP_cons, Bool.and_eq_true, beq_iff_eq]

theorem controlsOf_eq_zero (f : FoundAt → Bool) (found : List FoundAt) (h : ∀ p ∈ found, f p = false) :
    controlsOf f found = 0 := by
  simp only [controlsOf, List.countP_eq_zero]
  intro p hp
  simp [h p hp]

/-- A packet found, and what is found behind it. -/
theorem SearchesFrom.cons {l : Line} {i controls : Nat} {p : FoundAt} {found : List FoundAt} (hstart : p.start = i)
    (hp : FoundIn l p) (hfour : controls < 4) (htrunc : p.packet.truncated = true → found = [] ∧ l.length ≤ p.stop)
    (h : p.packet.truncated = false →
      SearchesFrom l p.stop (if p.packet.kind = .control then controls + 1 else controls) found) :
    SearchesFrom l i controls (p :: found) := by
  have hstop : p.start < p.stop := by
    obtain ⟨_, _, _, hs⟩ := hp
    omega
  have hbehind : ∀ q ∈ found, p.stop ≤ q.start ∧ p.packet.truncated = false := fun q hq => by
    cases ht : p.packet.truncated with
    | true => rw [(htrunc ht).1] at hq; cases hq
    | false => exact ⟨((h ht).each q hq).1, rfl⟩
  refine ⟨fun q hq => ?_, List.pairwise_cons.2 ⟨hbehind, ?_⟩, fun q hq => ?_, fun j kind hm hj => ?_⟩
  · rcases List.mem_cons.1 hq with rfl | hq
    · exact ⟨Nat.le_of_eq hstart.symm, hp⟩
    · have hb := hbehind q hq
      exact ⟨by omega, ((h hb.2).each q hq).2⟩
  · cases ht : p.packet.truncated with
    | true => rw [(htrunc ht).1]; exact .nil
    | false => exact (h ht).apart
  · rw [controlsOf_cons]
    rcases List.mem_cons.1 hq with rfl | hq
    · rw [controlsOf_eq_zero _ found fun k hk => by have := (hbehind k hk).1; simp; omega]
      simpa using hfour
    · have hb := hbehind q hq
      have hfewer := (h hb.2).fewer q hq
      have hlt : p.start < q.start := by omega
      by_cases hk : p.packet.kind = .control <;> simp only [hk, hlt, decide_true, and_self, and_true, if_true,
        if_false] at hfewer ⊢ <;> omega
  · by_cases hin : j < p.stop
    · exact .inl ⟨p, List.mem_cons_self, by omega, hin⟩
    · cases ht : p.packet.truncated with
      | true =>
        have hlen := (htrunc ht).2
        obtain ⟨hj1, _⟩ := hm
        have := (List.getElem?_eq_some_iff.1 hj1).1
        omega
      | false =>
        rcases (h ht).covers j kind hm (by omega) with ⟨q, hq, hcover⟩ | hfour'
        · exact .inl ⟨q, List.mem_cons_of_mem p hq, hcover⟩
        · right
          rw [controlsOf_cons]
          have hle : p.stop ≤ j := by omega
          by_cases hk : p.packet.kind = .control <;> simp only [hk, hle, decide_true, and_self, and_true, if_true,
            if_false] at hfour' ⊢ <;> omega

/-- The search of what is left of a line. -/
theorem searchLine_searches (l : Line) (xs : List Sample) (skip i controls : Nat) (hxs : l.drop i = xs) :
    SearchesFrom l (i + skip) controls (searchLine skip i controls xs) := by
  induction xs generalizing skip i controls with
  | nil =>
    have hlen : l.length ≤ i := List.drop_eq_nil_iff.1 hxs
    refine .nothing (.inr fun j kind hj hm => ?_)
    have := (List.getElem?_eq_some_iff.1 hm.1).1
    omega
  | cons a t ih =>
    have ht : l.drop (i + 1) = t := by rw [← List.drop_drop, hxs]; rfl
    have hget : ∀ k, l[i + k]? = (a :: t)[k]? := fun k => by rw [← hxs, List.getElem?_drop]
    unfold searchLine
    by_cases hskip : 0 < skip
    · rw [if_pos hskip]
      have := ih (skip - 1) (i + 1) controls ht
      rwa [show i + 1 + (skip - 1) = i + skip by omega] at this
    · obtain rfl : skip = 0 := by omega
      rw [if_neg hskip]
      by_cases hfour : 4 ≤ controls
      · rw [if_pos hfour]
        exact .nothing (.inl hfour)
      · rw [if_neg hfour]
        cases t with
        | nil =>
          refine .nothing (.inr fun j kind hj hm => ?_)
          have h1 := (List.getElem?_eq_some_iff.1 hm.2).1
          have h2 : l.length ≤ i + 1 := List.drop_eq_nil_iff.1 ht
          omega
        | cons b after =>
          have hafter : l.drop (i + 2) = after := by rw [← List.drop_drop (i := 1) (j := i + 1), ht]; rfl
          have ha : l[i]? = some a := hget 0
          have hb : l[i + 1]? = some b := hget 1
          dsimp only
          cases hk : markerKind a b with
          | none =>
            refine SearchesFrom.of_next (ih 0 (i + 1) controls ht) fun kind hm => ?_
            have hkind := (markerKind_iff a b kind).2 ⟨Option.some.inj (ha.symm.trans hm.1),
              Option.some.inj (hb.symm.trans hm.2)⟩
            rw [hk] at hkind
            cases hkind
          | some kind =>
            obtain ⟨h1, h2⟩ := (markerKind_iff a b kind).1 hk
            have hm : MarkedAt l i kind := ⟨by rw [ha, h1], hb.trans (congrArg some h2)⟩
            have hfound := foundIn_packetAt l i kind hm
            rw [hafter] at hfound
            obtain ⟨hle, hall⟩ := packetAt_length_le kind after
            refine SearchesFrom.cons rfl hfound (Nat.not_le.1 hfour) (fun htr => ⟨if_pos htr, ?_⟩) fun htr => ?_
            · have hlen := hall htr
              have hl : l.length ≤ i + 2 + after.length := by rw [← hafter, List.length_drop]; omega
              simp only [hlen]; omega
            · have htr' : (packetAt kind after).truncated = false := htr
              have hrest := ih (2 + (packetAt kind after).bytes.length - 1) (i + 1)
                (if kind = .control then controls + 1 else controls) ht
              rw [show i + 1 + (2 + (packetAt kind after).bytes.length - 1) =
                i + (2 + (packetAt kind after).bytes.length) by omega] at hrest
              simp only [htr', packetAt_kind, Bool.false_eq_true, if_false]
              exact hrest

theorem searchesLine_packetsOfLine (l : Line) : SearchesLine l (packetsOfLine l) := by
  obtain ⟨heach, hapart, hfewer, hcovers⟩ := searchLine_searches l l 0 0 0 rfl
  refine ⟨fun p hp => (heach p hp).2, hapart, fun q hq => ?_, fun i kind hm => ?_⟩
  · have h := hfewer q hq
    rwa [Nat.zero_add] at h
  · have h := hcovers i kind hm (Nat.zero_le i)
    rwa [Nat.zero_add] at h

/-! ## The delayed lines (spec 01 R10 to R12) -/

theorem isOwn_iff (address : Nat) (p : FoundAt) : isOwn address p = true ↔
    ∃ a rest, p.packet.kind = .control ∧ p.packet.bytes = a :: rest ∧ a.toNat = address := by
  unfold isOwn
  cases hb : p.packet.bytes with
  | nil => simp
  | cons a rest =>
    simp only [Bool.and_eq_true, beq_iff_eq, decide_eq_true_eq, List.cons.injEq]
    exact ⟨fun ⟨hk, ha⟩ => ⟨a, rest, hk, ⟨rfl, rfl⟩, ha⟩, fun ⟨_, _, hk, ⟨h1, _⟩, ha⟩ => ⟨hk, h1 ▸ ha⟩⟩

theorem blankOut_get (own : List FoundAt) (i : Nat) (xs : List Sample) (j : Nat) : (blankOut own i xs)[j]? =
    xs[j]?.map fun x => if own.any fun p => decide (p.start ≤ i + j ∧ i + j < p.stop) then none else some x := by
  induction xs generalizing i j with
  | nil => simp [blankOut]
  | cons x xs ih =>
    cases j with
    | zero => simp [blankOut]
    | succ j => rw [blankOut, List.getElem?_cons_succ, ih, Nat.add_right_comm i 1 j, List.getElem?_cons_succ]; rfl

theorem blankOut_length (own : List FoundAt) (i : Nat) (xs : List Sample) : (blankOut own i xs).length = xs.length := by
  induction xs generalizing i with
  | nil => rfl
  | cons x xs ih => simp [blankOut, ih]

theorem delayedLines_get (address first : Nat) (lines : List Line) (i : Nat) : (delayedLines address first lines)[i]? =
    lines[i]?.map fun l => if first + i < 4 then outgoingCarriage address l
      else if first + i < 6 then [] else l.map some := by
  induction lines generalizing first i with
  | nil => simp [delayedLines]
  | cons l ls ih =>
    cases i with
    | zero => simp [delayedLines]
    | succ i => rw [delayedLines, List.getElem?_cons_succ, ih, Nat.add_right_comm first 1 i, List.getElem?_cons_succ]; rfl

theorem delayedLines_length (address first : Nat) (lines : List Line) :
    (delayedLines address first lines).length = lines.length := by
  induction lines generalizing first with
  | nil => rfl
  | cons l ls ih => simp [delayedLines, ih]

/-- Spec 01 R11: a sample of a carriage line leaves at blanking level within the part's own packets. -/
theorem outgoingCarriage_get (address : Nat) (l : Line) (j : Nat) (x : Sample) (hx : l[j]? = some x) :
    (outgoingCarriage address l)[j]? =
      some (if ∃ p ∈ packetsOfLine l, isOwn address p = true ∧ p.start ≤ j ∧ j < p.stop then none else some x) := by
  rw [outgoingCarriage, blankOut_get, hx, Option.map_some]
  congr 1
  refine ite_congr (propext ?_) (fun _ => rfl) fun _ => rfl
  simp only [List.any_eq_true, List.mem_filter, decide_eq_true_eq, Nat.zero_add, and_assoc]

/-! ## The lock table -/

theorem judge_formatStructure (f : Format) : judge (formatStructure f) = some f := by
  cases f <;> decide

theorem judge_eq_none (fs : FrameStructure) (h : fs.completeStart = false ∨ ∀ f, matchesFormat fs f = false) :
    judge fs = none := by
  unfold judge
  rcases h with h | h
  · rw [h]; rfl
  · split
    · exact List.find?_eq_none.2 fun f _ => by simp [h f]
    · rfl

theorem frameTaken_input (f : Format) (blanking : Blanking) (s : State) :
    (frameTaken f blanking s).input = goodFrameInput f s.input := by
  have h := (changeInput_leaves (goodFrameInput f s.input) s).1
  unfold frameTaken followFrame
  split <;> exact h

/-- Spec 01 R5, R7, R8: what a good frame leaves of output timing. -/
theorem frameTaken_timing (f : Format) (blanking : Blanking) (s : State) : (frameTaken f blanking s).timing =
    { s.timing with
      mode := modeOf (goodFrameInput f s.input).state
      starts := if (goodFrameInput f s.input).state = .locked then
          let start : FollowedStart := { format := f, blanking := delayedLines (deviceAddress s) 0 blanking.lines }
          if s.input.state = .locked then s.timing.starts ++ [start] else [start]
        else s.timing.starts } := by
  obtain ⟨hinput, htiming, -, hframe⟩ := changeInput_leaves (goodFrameInput f s.input) s
  have haddress : deviceAddress (changeInput (goodFrameInput f s.input) s) = deviceAddress s := by
    rw [hframe]; rfl
  unfold frameTaken followFrame
  rw [hinput, haddress]
  split
  · simp only [htiming]
  · exact htiming

theorem frameTaken_frame (f : Format) (blanking : Blanking) (s : State) :
    (frameTaken f blanking s).glyphs = { s.glyphs with missing := (frameTaken f blanking s).glyphs.missing } ∧
    frameTaken f blanking s = { s with
      input := (frameTaken f blanking s).input, timing := (frameTaken f blanking s).timing
      guard := (frameTaken f blanking s).guard, keyer := (frameTaken f blanking s).keyer
      glyphs := (frameTaken f blanking s).glyphs } := by
  obtain ⟨-, -, hglyphs, hframe⟩ := changeInput_leaves (goodFrameInput f s.input) s
  unfold frameTaken followFrame
  split
  · exact ⟨hglyphs, by rw [hframe]⟩
  · exact ⟨hglyphs, by rw [hframe]⟩

/-- Settles O4: the table of R2, the followed start, the search, and the delayed lines. -/
theorem goodFrameFollowsTheLockTable : Obligations.GoodFrameFollowsTheLockTable := by
  refine ⟨judge_formatStructure, fun fs blanking s h => exec_frame_of_no_format fs blanking s (judge_eq_none fs h),
    fun fs blanking f s hpin hj => ?_, searchesLine_packetsOfLine, fun lines => ?_, fun address lines =>
    ⟨delayedLines_length address 0 lines, fun i came hi => ?_⟩⟩
  · intro start
    have hinput := frameTaken_input f blanking s
    have htiming := frameTaken_timing f blanking s
    obtain ⟨hglyphs, hframe⟩ := frameTaken_frame f blanking s
    refine ⟨frameTaken f blanking s, exec_goodFrame fs blanking f s hpin hj, fun hs => ?_, fun hs hc hg => ?_,
      fun hs hc => ?_, fun hs hl => ?_, fun hs hl => ?_, fun hs hl => ?_, ?_, ?_, ?_, ?_, fun hu => ?_, fun hu hs => ?_,
      fun hu hs => ?_, hglyphs, hframe⟩
    · rw [hinput, goodFrameInput_noSignal f s.input hs]
    · rw [hinput]; simp [goodFrameInput, hs, hc, hg, lockOn]
    · rw [hinput]; simp [goodFrameInput, hs, hc, acquire]
    · rw [hinput]; simp [goodFrameInput, hs, hl]
    · rw [hinput]; simp [goodFrameInput, hs, hl]
    · rw [hinput]; rcases hs with hs | hs <;> simp [goodFrameInput, hs, hl, acquire]
    · rw [hinput, htiming]; rfl
    · rw [htiming]
    · rw [htiming]
    · rw [htiming]
    · rw [htiming, ← hinput]; exact if_neg hu
    · rw [htiming, ← hinput]; exact (if_pos hu).trans (if_pos hs)
    · rw [htiming, ← hinput]; exact (if_pos hu).trans (if_neg hs)
  · rw [packetsOfFrame, List.flatMap_def, List.map_flatten, List.map_map]
    rfl
  · refine ⟨if 0 + i < 4 then outgoingCarriage address came else if 0 + i < 6 then [] else came.map some,
      by rw [delayedLines_get, hi]; rfl, fun h => ?_, fun h => ?_, fun h => ?_⟩
    · rw [if_neg (by omega), if_pos (by omega)]
    · rw [if_neg (by omega), if_neg (by omega)]
    · rw [if_pos (by omega)]
      refine ⟨blankOut_length _ 0 came, fun j x hx => ⟨fun hown => ?_, fun hout => ?_⟩⟩
      · obtain ⟨p, hp, a, rest, hk, hb, ha, h1, h2⟩ := hown
        rw [outgoingCarriage_get address came j x hx,
          if_pos ⟨p, hp, (isOwn_iff address p).2 ⟨a, rest, hk, hb, ha⟩, h1, h2⟩]
      · rw [outgoingCarriage_get address came j x hx, if_neg]
        rintro ⟨p, hp, ho, h1, h2⟩
        obtain ⟨a, rest, hk, hb, ha⟩ := (isOwn_iff address p).1 ho
        exact absurd h2 (Nat.not_lt.2 (hout p hp a rest hk hb ha h1))

end Sys2Proof.Machine
end

section
/-! PROOFS. DEVICE_CONFIG, RESET and power-on reset (spec 02 sections 2.5 and 2.6, spec 01 R13). -/

namespace Sys2Proof.Machine

open Sys2Proof

/-! ## DEVICE_CONFIG: the stored settings -/

theorem deviceQuote_frame (form : Format) (f : DeviceFields) (q : QuoteUnit) :
    (deviceQuote form f q).classFilter = (f.classFilter.map fun b => clampTo 0 7 b.toNat).getD q.classFilter ∧
    (deviceQuote form f q).largeThreshold = (f.largeThreshold.map fun v => clampTo 1 9999 v.toNat).getD q.largeThreshold ∧
    (deviceQuote form f q).staleLimit = (f.staleLimit.map fun v => clampTo 0 600 v.toNat).getD q.staleLimit ∧
    (deviceQuote form f q).feedTimeout = (f.feedTimeout.map fun v => clampTo 0 600 v.toNat).getD q.feedTimeout ∧
    (deviceQuote form f q).feedAge = q.feedAge ∧ (deviceQuote form f q).movement = q.movement := by
  unfold deviceQuote deviceFeed deviceStale
  cases f.staleLimit <;> cases f.feedTimeout <;> exact ⟨rfl, rfl, rfl, rfl, rfl, rfl⟩

/-- Spec 09 R144: the two limits in frames. -/
theorem deviceQuote_limits (form : Format) (f : DeviceFields) (q : QuoteUnit) :
    (f.staleLimit ≠ none → (deviceQuote form f q).staleFrames = framesOf form (deviceQuote form f q).staleLimit) ∧
    (f.feedTimeout ≠ none → (deviceQuote form f q).feedFrames = framesOf form (deviceQuote form f q).feedTimeout) ∧
    (f.staleLimit = none → (deviceQuote form f q).staleFrames = q.staleFrames) ∧
    (f.feedTimeout = none → (deviceQuote form f q).feedFrames = q.feedFrames) := by
  cases hs : f.staleLimit <;> cases hf : f.feedTimeout <;>
    simp [deviceQuote, deviceFeed, deviceStale, evaluateStale, deviceClasses, hs, hf]

theorem symbolAt_evaluateStale (q : QuoteUnit) (n : Nat) :
    symbolAt (evaluateStale q) n = (symbolAt q n).map fun x => { x with stale := staleAt q.staleFrames x.age } :=
  get_mapSymbols _ q.symbols n

/-- Spec 09 R144: a limit carried evaluates every stale flag. -/
theorem symbolAt_deviceQuote (form : Format) (f : DeviceFields) (q : QuoteUnit) (n : Nat) :
    symbolAt (deviceQuote form f q) n = (symbolAt q n).map fun x => { x with
      stale := if f.staleLimit = none ∧ f.feedTimeout = none then x.stale
        else staleAt (deviceQuote form f q).staleFrames x.age } := by
  cases hs : f.staleLimit with
  | none =>
    cases hf : f.feedTimeout with
    | none =>
      have hq : symbolAt (deviceQuote form f q) n = symbolAt q n := by
        simp only [deviceQuote, deviceFeed, deviceStale, hs, hf]; rfl
      rw [hq]
      cases symbolAt q n <;> simp
    | some v =>
      simp only [deviceQuote, deviceFeed, deviceStale, hs, hf, symbolAt_evaluateStale]
      rfl
  | some w =>
    cases hf : f.feedTimeout with
    | none =>
      simp only [deviceQuote, deviceFeed, deviceStale, hs, hf, symbolAt_evaluateStale]
      rfl
    | some v =>
      have hq : symbolAt (deviceQuote form f q) n =
          (symbolAt (deviceStale form f (deviceClasses f q)) n).map fun x =>
            { x with stale := staleAt (deviceQuote form f q).staleFrames x.age } := by
        simp only [deviceQuote, deviceFeed, hf, symbolAt_evaluateStale]; rfl
      have hq' : symbolAt (deviceStale form f (deviceClasses f q)) n = (symbolAt q n).map fun x =>
          { x with stale := staleAt (framesOf form (clampTo 0 600 w.toNat)) x.age } := by
        simp only [deviceStale, hs, symbolAt_evaluateStale]; rfl
      rw [hq, hq', Option.map_map]
      rfl

theorem deviceIntake_eq (f : DeviceFields) (i : Intake)
    (h : ∀ b, f.groupAddress = some b → b.toNat ≤ 30 ∨ b.toNat = 255) : deviceIntake f i =
      { i with groupAddress := match f.groupAddress with
        | some b => if b.toNat = 255 then none else some b.toNat
        | none => i.groupAddress } := by
  unfold deviceIntake
  cases hg : f.groupAddress with
  | none => rfl
  | some b =>
    dsimp only
    have hb255 : b = 0xFF ↔ b.toNat = 255 := ⟨fun hb => by rw [hb]; rfl, fun hb => BitVec.eq_of_toNat_eq hb⟩
    by_cases hb : b.toNat = 255
    · rw [if_pos hb, groupField, if_pos (hb255.2 hb)]; rfl
    · rw [if_neg hb, groupField, if_neg (mt hb255.1 hb), if_pos ((h b hg).resolve_right hb)]; rfl

theorem groupOutOfRange_eq (f : DeviceFields) : groupOutOfRange f = true ↔
    ∃ b, f.groupAddress = some b ∧ 31 ≤ b.toNat ∧ b.toNat ≤ 254 := by
  unfold groupOutOfRange
  cases f.groupAddress with
  | none => simp
  | some b =>
    have hb255 : b = 0xFF ↔ b.toNat = 255 := ⟨fun hb => by rw [hb]; rfl, fun hb => BitVec.eq_of_toNat_eq hb⟩
    have hlt := b.isLt
    simp only [Option.some.injEq, exists_eq_left', groupField]
    by_cases h1 : b = 0xFF
    · rw [if_pos h1]
      have := hb255.1 h1
      exact ⟨nofun, fun h => by omega⟩
    · rw [if_neg h1]
      have := mt hb255.2 h1
      by_cases h2 : b.toNat ≤ 30
      · rw [if_pos h2]; exact ⟨nofun, fun h => by omega⟩
      · rw [if_neg h2]; exact ⟨fun _ => by omega, fun _ => rfl⟩

/-- Spec 01 R4: the check of a filter. -/
theorem filterCheck_eq (u : InputUnit) : filterCheck u =
    if (u.state = .holdover ∨ u.state = .acquiring) ∧ u.lossFilter ≤ u.missCount then
      { u with state := .noSignal, candidate := none, goodCount := 0, missCount := 0 }
    else u := by
  unfold filterCheck
  cases hs : u.state <;> simp [loseSignal]

/-! ## What a change of the input unit does to the guard -/

/-- Spec 01 R14, spec 11 R170: no loss, nothing of the guard. -/
theorem changeInput_kept (u : InputUnit) (s : State) (h : s.input.state = .noSignal → u.state = .noSignal)
    (hk : s.input.state = .noSignal ∨ u.state ≠ .noSignal) : SameGuard s (changeInput u s) := by
  rw [changeInput_same u s ⟨h, fun hu => hk.resolve_right fun hn => hn hu⟩]
  exact ⟨rfl, rfl, rfl⟩

/-- Spec 01 R14, spec 11 R170: a loss puts INPUT_LOSS in. -/
theorem changeInput_loses (u : InputUnit) (s : State) (hs : s.input.state ≠ .noSignal) (hu : u.state = .noSignal) :
    (changeInput u s).guard.active =
        { s.guard.active with inputLoss := s.guard.active.inputLoss || s.guard.inputLoss.enabled } ∧
      ((changeInput u s).guard.active = s.guard.active → SameGuard s (changeInput u s)) ∧
      ((changeInput u s).guard.active ≠ s.guard.active → GuardActs s (changeInput u s)) := by
  have hm := causeOnset_moves .inputLoss (putInput u s)
  rw [changeInput_lost u s hs hu]
  exact ⟨hm.active, fun he => by rw [hm.stays he]; exact ⟨rfl, rfl, rfl⟩, fun hne => (hm.acts hne).of_putInput⟩

theorem changeInput_fades (u : InputUnit) (s : State) : (changeInput u s).keyer.keyFade = s.keyer.keyFade ∧
    (changeInput u s).guard.guardFade = s.guard.guardFade := by
  rcases changeInput_cases u s with h | ⟨b, h⟩
  · rw [h]; exact ⟨rfl, rfl⟩
  · obtain ⟨r, f, n, k, hr, -, hk⟩ := recompute_frame (markCause .inputLoss b (putInput u s))
    rw [h, hr]
    exact ⟨hk, rfl⟩

theorem deviceFilter_eq (f : DeviceFields) (u : InputUnit) : deviceFilter f u = match f.lossFilter with
    | none => u
    | some b =>
      let filter := clampTo 1 15 b.toNat
      if (u.state = .holdover ∨ u.state = .acquiring) ∧ filter ≤ u.missCount then
        { u with lossFilter := filter, state := .noSignal, candidate := none, goodCount := 0, missCount := 0 }
      else { u with lossFilter := filter } := by
  unfold deviceFilter
  cases f.lossFilter with
  | none => rfl
  | some b => exact filterCheck_eq _

theorem deviceFilter_noSignal (f : DeviceFields) (u : InputUnit) (h : u.state = .noSignal) :
    (deviceFilter f u).state = .noSignal := by
  unfold deviceFilter
  cases f.lossFilter with
  | none => exact h
  | some b =>
    dsimp only
    rw [filterCheck_eq]
    split
    · rfl
    · exact h

/-- What the guard unit's acts are measured from in a state with its settings stored. -/
theorem GuardActs.of_stored {f : DeviceFields} {s t u : State} (h : GuardActs (storeSettings f s) t)
    (hk : u.keyer = (storeSettings f s).keyer) (hg : u.guard = (storeSettings f s).guard)
    (hu : u = { s with keyer := u.keyer, guard := u.guard }) : GuardActs u t := by
  rw [hu, hk, hg]
  exact h

/-- Settles O28: the settings stored, then the check of the filter and what the guard does on a loss. -/
theorem deviceConfigStoresTheSettings : Obligations.DeviceConfigStoresTheSettings := by
  intro h f s ready hl
  refine ⟨fun b hb h31 h254 => ?_, fun hb => ?_⟩
  · refine refused_of_error (c := .deviceConfig f) ready rfl ?_
    have hout := (groupOutOfRange_eq f).2 ⟨b, hb, h31, h254⟩
    simp only [runCommand, doDeviceConfig, hl, hout, Nat.lt_irrefl, if_false, if_true]
  · have hin : groupOutOfRange f = false := Bool.eq_false_iff.2 fun hout => by
      obtain ⟨b, hg, h31, h254⟩ := (groupOutOfRange_eq f).1 hout
      have := hb b hg
      omega
    obtain ⟨hinput, htiming, hglyphs, hframe⟩ := changeInput_leaves (deviceFilter f s.input) (storeSettings f s)
    have hquote : (changeInput (deviceFilter f s.input) (storeSettings f s)).quote = deviceQuote s.timing.format f s.quote := by
      rw [hframe]; rfl
    obtain ⟨hclass, hlarge, hstale, hfeed, hage, hmove⟩ := deviceQuote_frame s.timing.format f s.quote
    obtain ⟨hlim1, hlim2, hlim3, hlim4⟩ := deviceQuote_limits s.timing.format f s.quote
    obtain ⟨hkf, hgf⟩ := changeInput_fades (deviceFilter f s.input) (storeSettings f s)
    have hsym := symbolAt_deviceQuote s.timing.format f s.quote
    refine ⟨changeInput (deviceFilter f s.input) (storeSettings f s), applied_of_ok (c := .deviceConfig f) ready rfl ?_, ?_, ?_,
      ?_, ?_, ?_, ?_, fun hs => ⟨?_, fun n x hx => ?_⟩, ?_, ?_, ?_, fun n => ?_, ?_, ?_, ?_, ?_, ?_⟩
    · simp only [runCommand, doDeviceConfig, hl, hin, Nat.lt_irrefl, if_false, Bool.false_eq_true]
    · rw [hframe]; exact deviceIntake_eq f s.intake hb
    · rw [hinput]; exact deviceFilter_eq f s.input
    · rw [hquote]; exact hclass
    · rw [hquote]; exact hlarge
    · rw [hquote]; exact hstale
    · rw [hquote]; exact hfeed
    · rw [hquote]; exact hlim1 hs
    · rw [hquote, hsym] at hx
      obtain ⟨y, _, rfl⟩ := Option.map_eq_some_iff.1 hx
      rw [hquote]
      exact if_neg fun hh => hs hh.1
    · rw [hquote]; exact hlim2
    · rw [hquote]; exact hlim3
    · rw [hquote]; exact hlim4
    · rw [hquote]; exact hsym n
    · rw [hquote]; exact hage
    · rw [htiming, hinput]; rfl
    · exact hkf
    · exact hgf
    · rw [hframe]
      refine ⟨rfl, rfl, rfl, rfl, rfl, rfl, rfl, rfl, hmove, fun hf hm => ?_, ?_, ?_⟩
      · have hfilter : deviceFilter f s.input = s.input := by rw [deviceFilter_eq, hf]
        have hsame : changeInput s.input (storeSettings f s) = storeSettings f s := by
          refine (changeInput_same (storeSettings f s).input (storeSettings f s) Iff.rfl).trans ?_
          exact congrArg (fun m => { storeSettings f s with timing := { s.timing with mode := m } }) hm.modeOf_eq
        rw [← hframe, hfilter, hsame]
        exact ⟨rfl, rfl, rfl⟩
      · rw [← hframe]
        have hintake : (changeInput (deviceFilter f s.input) (storeSettings f s)).intake = (storeSettings f s).intake := by
          rw [hframe]
        exact hframe.trans (by rw [hinput, htiming, hglyphs, hintake, hquote]; rfl)
      · rw [← hframe, hinput]
        intro u
        have huk : u.keyer = (storeSettings f s).keyer := congrArg (fun n => { s.keyer with keyFade := n }) hkf
        have hug : u.guard = (storeSettings f s).guard := congrArg (fun n => { s.guard with guardFade := n }) hgf
        refine ⟨fun hk => ?_, fun hs hu => ?_⟩
        · rw [hug, huk]
          exact changeInput_kept _ (storeSettings f s) (deviceFilter_noSignal f s.input) hk
        · rw [hug, huk]
          obtain ⟨hactive, hstays, hacts⟩ := changeInput_loses _ (storeSettings f s) hs hu
          exact ⟨hactive, hstays, fun hne => (hacts hne).of_stored huk hug rfl⟩

/-! ## RESET -/

/-- What a RESET leaves of the guard and its conditions before the guard reads them: nothing but, perhaps, the loss of the
input. -/
structure Rested (b : State) : Prop where
  state : b.guard.state = .normal
  active : b.guard.active = .empty
  manual : b.guard.manual = false
  latch : b.intake.latch = false
  feed : feedLossPresent b.quote = false

/-- Spec 11 R181: the causes that join after a RESET. -/
theorem Rested.joinPresent_eq {b : State} (h : Rested b) : joinPresent b =
    recompute { b with guard := { b.guard with active :=
      { CauseSet.empty with inputLoss := b.guard.inputLoss.enabled && b.input.state == .noSignal } } } := by
  obtain ⟨-, hactive, hmanual, hlatch, hfeed⟩ := h
  simp only [joinPresent, conditionPresent, hactive, hmanual, hlatch, hfeed, causeConfig, Bool.and_false, Bool.or_false]
  rfl

theorem recompute_guard_state (s : State) : (recompute s).guard.state = guardStateOf s.guard := by
  obtain ⟨r, f, n, k, h, -⟩ := recompute_frame s
  rw [h]

theorem guardStateOf_inputLoss (g : GuardUnit) (b : Bool) (h : g.active = { CauseSet.empty with inputLoss := b }) :
    guardStateOf g = if b = true then .guarded g.inputLoss.action else .normal := by
  cases b with
  | false => simp [guardStateOf, h, CauseSet.isEmpty, CauseSet.empty]
  | true =>
    cases ha : g.inputLoss.action <;>
      simp [guardStateOf, anyClear, allCauses, causeConfig, h, CauseSet.has, CauseSet.isEmpty, CauseSet.empty, ha]

/-- Spec 11 R174, R181: the guard after a RESET. -/
theorem Rested.joins {b : State} (h : Rested b) :
    (joinPresent b).guard.active =
      { CauseSet.empty with inputLoss := b.guard.inputLoss.enabled && b.input.state == .noSignal } ∧
    (joinPresent b).guard.state = (if b.guard.inputLoss.enabled = true ∧ b.input.state = .noSignal
      then .guarded b.guard.inputLoss.action else .normal) ∧
    GuardActs b (joinPresent b) := by
  rw [h.joinPresent_eq]
  refine ⟨(recompute_leaves _).1, ?_, recompute_acts b _⟩
  rw [recompute_guard_state, guardStateOf_inputLoss _ (b.guard.inputLoss.enabled && b.input.state == .noSignal) rfl]
  exact ite_congr (propext (by simp)) (fun _ => rfl) fun _ => rfl

/-- Spec 11 R175, spec 10 R166: the fade source after a recomputation from NORMAL (log 23). -/
theorem recompute_source_of_normal (s : State) (h : s.guard.state = .normal) : (recompute s).keyer.source =
    if (recompute s).guard.state = .guarded .clear ∧ s.guard.guardFade ≠ 0
      then .guard ((256 + s.guard.guardFade - 1) / s.guard.guardFade) else s.keyer.source := by
  rw [recompute_guard_state]
  simp only [recompute, h]
  cases guardStateOf s.guard with
  | normal => simp [actOnChange]
  | guarded a =>
    cases a with
    | clear =>
      by_cases hf : s.guard.guardFade = 0
      · simp [actOnChange, sendFade, fadeToZero, hf]
      · simp [actOnChange, sendFade, fadeToZero, hf, ceilDiv]
    | slate => simp [actOnChange, resolveSlate_keyer, sendCut, cutToZero]

theorem Rested.leaves {b : State} (h : Rested b) :
    joinPresent b = { b with guard := (joinPresent b).guard, keyer := (joinPresent b).keyer
                             glyphs := { b.glyphs with missing := (joinPresent b).glyphs.missing } } ∧
    (joinPresent b).guard.manual = b.guard.manual ∧ (joinPresent b).guard.slate = b.guard.slate ∧
    (joinPresent b).guard.guardFade = b.guard.guardFade ∧
    (∀ k, causeConfig (joinPresent b).guard k = causeConfig b.guard k) ∧
    (joinPresent b).keyer.wish = b.keyer.wish ∧ (joinPresent b).keyer.keyFade = b.keyer.keyFade ∧
    (joinPresent b).keyer.source = (if (joinPresent b).guard.state = .guarded .clear ∧ b.guard.guardFade ≠ 0
      then .guard ((256 + b.guard.guardFade - 1) / b.guard.guardFade) else b.keyer.source) := by
  rw [h.joinPresent_eq]
  obtain ⟨r, f, n, k, hr, hw, hk⟩ := recompute_frame { b with guard := { b.guard with active :=
    { CauseSet.empty with inputLoss := b.guard.inputLoss.enabled && b.input.state == .noSignal } } }
  have hsource := recompute_source_of_normal { b with guard := { b.guard with active :=
    { CauseSet.empty with inputLoss := b.guard.inputLoss.enabled && b.input.state == .noSignal } } } h.state
  refine ⟨by rw [hr], by rw [hr], by rw [hr], by rw [hr], fun k => by rw [hr]; cases k <;> rfl, by rw [hr]; exact hw,
    by rw [hr]; exact hk, hsource⟩

/-- The key at a RESET: off, at level 0 (spec 10 R163, R166). -/
theorem Rested.key {b : State} (h : Rested b) (hl : b.keyer.level = 0) (ht : b.keyer.target = .off) :
    (joinPresent b).keyer.level = 0 ∧ (joinPresent b).keyer.target = .off := by
  obtain ⟨_, _, hacts⟩ := h.joins
  obtain ⟨_, _, _, _, hkept, hclear, _, hslate, _⟩ := hacts
  cases hs : (joinPresent b).guard.state with
  | normal => rw [(hkept (by rw [hs, h.state])).1]; exact ⟨hl, ht⟩
  | guarded a =>
    cases a with
    | clear =>
      rw [(hclear h.state hs).1.1]
      refine ⟨?_, rfl⟩
      show (if b.guard.guardFade = 0 then 0 else b.keyer.level) = 0
      rw [hl, ite_self]
    | slate => rw [(hslate (by rw [h.state]; exact nofun) hs).1]; exact ⟨rfl, rfl⟩

/-- Where the part is not GUARDED with action SLATE again, no slate is resolved. -/
theorem Rested.noSlate {b : State} (h : Rested b) (hs : (joinPresent b).guard.state ≠ .guarded .slate) :
    (joinPresent b).guard.slateFault = b.guard.slateFault ∧ (joinPresent b).guard.resolved = b.guard.resolved ∧
      (joinPresent b).glyphs.missing = b.glyphs.missing := by
  obtain ⟨_, _, hacts⟩ := h.joins
  obtain ⟨_, _, _, _, hkept, hclear, _, _, _, hfault⟩ := hacts
  obtain ⟨hf, hm⟩ := hfault (.inl hs)
  refine ⟨hf, ?_, hm⟩
  cases hst : (joinPresent b).guard.state with
  | normal => exact (hkept (by rw [hst, h.state])).2
  | guarded a =>
    cases a with
    | clear => exact (hclear h.state hst).2
    | slate => exact absurd hst hs

theorem rested_resetRunBlocks (s : State) : Rested (resetRunBlocks s) where
  state := rfl
  active := rfl
  manual := rfl
  latch := rfl
  feed := by
    show (s.quote.feedFrames != 0 && decide (s.quote.feedFrames ≤ 0)) = false
    cases hf : s.quote.feedFrames <;> rfl

theorem advanceTotal_missing (g : GlyphStore) (n : Counter) (f : Nat) (codes : List Byte) :
    advanceTotal { g with missing := n } f codes = advanceTotal g f codes := by
  rw [advanceTotal_eq_sum, advanceTotal_eq_sum]; rfl

/-- A resolution reads nothing that RESET RUN clears. -/
theorem resolvesSlate_of_resetRun {s t : State} (h : ResolvesSlate (resetRunBlocks s) s.guard.slate 0 t) :
    ResolvesSlate s s.guard.slate 0 t := by
  obtain ⟨hpass, hfail⟩ := h
  refine ⟨fun c x codes hc hp => ?_, fun hn => hfail hn⟩
  obtain ⟨h1, h2, h3⟩ := hpass c x codes hc hp
  refine ⟨h1, ?_, h3⟩
  rw [h2]
  show some _ = some _
  rw [show (resetRunBlocks s).glyphs = { s.glyphs with missing := 0 } from rfl, advanceTotal_missing]

/-- Settles O30: the blocks reset, and then the guard reads its conditions. -/
theorem resetRunKeepsWhatIsLoaded : Obligations.ResetRunKeepsWhatIsLoaded := by
  intro h s ready hl
  have hb := rested_resetRunBlocks s
  obtain ⟨hframe, hmanual, hslate, hfade, hcfg, hwish, hkf, hsource⟩ := hb.leaves
  obtain ⟨hactive, hstate, hacts⟩ := hb.joins
  obtain ⟨hlevel, htarget⟩ := hb.key rfl rfl
  have hlanes : (joinPresent (resetRunBlocks s)).lanes = s.lanes.map resetRunLane := by rw [hframe]; rfl
  have hquote : (joinPresent (resetRunBlocks s)).quote = resetQuote s.quote := by rw [hframe]; rfl
  refine ⟨joinPresent (resetRunBlocks s), exec_resetRun h s ready hl, by rw [hframe]; rfl, by rw [hframe]; rfl,
    by rw [hframe]; rfl, by rw [hframe]; rfl, hlevel, htarget, hwish, hkf, hactive, hstate, hmanual, hslate,
    hcfg .inputLoss, hcfg .feedLoss, hcfg .intakeOverrun, fun hs => hb.noSlate hs, fun hs => ?_, hsource, ?_⟩
  · obtain ⟨_, _, _, _, _, _, _, hresolve, _⟩ := hacts
    exact resolvesSlate_of_resetRun (hresolve (by rw [hb.state]; exact nofun) hs).2
  · refine ⟨by rw [hframe]; rfl, by rw [hframe]; rfl, by rw [hframe]; rfl, by rw [hframe]; rfl, by rw [hframe]; rfl,
      by rw [hframe]; rfl, by rw [hframe]; rfl, by rw [hframe]; rfl, by rw [hframe]; rfl, by rw [hframe]; rfl,
      by rw [hquote]; rfl, by rw [hquote]; rfl, by rw [hquote]; rfl, by rw [hquote]; rfl, by rw [hquote]; rfl,
      by rw [hquote]; rfl, by rw [hquote]; rfl, hfade, by rw [hquote]; rfl, fun n => ?_, fun m => ?_⟩
    · rw [hquote]; exact get_mapSymbols resetSymbol s.quote.symbols n
    · have hk : laneOf (joinPresent (resetRunBlocks s)) m = resetRunLane (laneOf s m) := by
        rw [laneOf, hlanes, Quad.get_map]; rfl
      rw [hk]
      refine ⟨?_, ?_, ?_, ?_, ?_, ?_, ?_, ?_, ?_, ?_, ?_, ?_, ?_, ?_, ?_, ?_, ?_, ?_, ?_, ?_, ?_⟩ <;> rfl

theorem rested_resetAllBlocks (s : State) : Rested (resetAllBlocks s) where
  state := rfl
  active := rfl
  manual := rfl
  latch := rfl
  feed := rfl

/-! ## Empty stores -/

theorem laneOf_all (l : Lane) (s : State) (m : Nat) (h : s.lanes = .all l) : laneOf s m = l := by
  rw [laneOf, h, Quad.get_all]

theorem colours_initial (i : Nat) : writtenColour Palette.initial i = (if i = 1 then ⟨940, 512, 512⟩ else ⟨64, 512, 512⟩) ∧
    displayedColour Palette.initial i = writtenColour Palette.initial i := by
  refine ⟨?_, rfl⟩
  by_cases hi : i = 1
  · subst hi; rfl
  · rw [if_neg hi]
    have hfind : Table.find [(1, (⟨940, 512, 512⟩ : Colour))] i = none := by
      rw [Table.find, if_neg fun h => hi h.symm, Table.find]
    show (Table.find [(1, (⟨940, 512, 512⟩ : Colour))] i).getD Colour.black = _
    rw [hfind]; rfl

theorem glyphStore_initial (fill : Fill) : (∀ f, (GlyphStore.initial fill).fonts.get f = none) ∧
    ∀ f c, Table.get none ((GlyphStore.initial fill).maps.get f) c = none := by
  refine ⟨fun f => Quad.get_all none f, fun f c => ?_⟩
  rw [show (GlyphStore.initial fill).maps = .all [] from rfl, Quad.get_all]; rfl

/-- Settles O31: the blocks reset, the filter checked, and then the guard reads its conditions. -/
theorem resetAllClearsWhatIsLoaded : Obligations.ResetAllClearsWhatIsLoaded := by
  intro h s ready hl
  have hb := rested_resetAllBlocks s
  obtain ⟨hframe, hmanual, hslate, hfade, hcfg, hwish, hkf, hsource⟩ := hb.leaves
  obtain ⟨hactive, hstate, hacts⟩ := hb.joins
  obtain ⟨hlevel, htarget⟩ := hb.key rfl rfl
  have hlanes : (joinPresent (resetAllBlocks s)).lanes = s.lanes.map resetAllLane := by rw [hframe]; rfl
  have hquote : (joinPresent (resetAllBlocks s)).quote = QuoteUnit.initial := by rw [hframe]; rfl
  have hinput : (joinPresent (resetAllBlocks s)).input = filterCheck { s.input with lossFilter := 3 } := by rw [hframe]; rfl
  have hstate' : (joinPresent (resetAllBlocks s)).guard.state =
      if (joinPresent (resetAllBlocks s)).input.state = .noSignal then .guarded .clear else .normal := by
    rw [hstate, hinput]
    exact ite_congr (propext ⟨fun h => h.2, fun h => ⟨rfl, h⟩⟩) (fun _ => rfl) fun _ => rfl
  have hnoslate : (joinPresent (resetAllBlocks s)).guard.state ≠ .guarded .slate := by
    rw [hstate']; split <;> exact nofun
  obtain ⟨hfault, hresolved, hmissing⟩ := hb.noSlate hnoslate
  refine ⟨joinPresent (resetAllBlocks s), exec_resetAll h s ready hl, by rw [hframe]; rfl, by rw [hframe]; rfl,
    by rw [hframe]; rfl, by rw [hframe]; rfl, by rw [hinput]; exact filterCheck_eq _, by rw [hframe]; rfl,
    by rw [hframe]; rfl, by rw [hframe]; rfl, hlevel, htarget, hwish, hkf, ?_, hfade, hslate, hfault, hresolved, hmanual,
    hcfg .inputLoss, hcfg .feedLoss, hcfg .intakeOverrun, ?_, hstate', ?_⟩
  · have hinitial : (resetAllBlocks s).guard.guardFade = 8 := rfl
    rw [hsource, hstate', hinitial]
    by_cases hn : (joinPresent (resetAllBlocks s)).input.state = .noSignal
    · rw [if_pos hn, if_pos hn]
      exact if_pos ⟨rfl, by decide⟩
    · rw [if_neg hn, if_neg hn]; rfl
  · rw [hactive, hinput]; rfl
  · have hglyphs : (joinPresent (resetAllBlocks s)).glyphs = .initial .zero := by
      rw [hframe, hmissing]; rfl
    have hpalette : (joinPresent (resetAllBlocks s)).palette = .initial := by rw [hframe]; rfl
    rw [hglyphs, hpalette, hquote]
    refine ⟨(glyphStore_initial .zero).1, (glyphStore_initial .zero).2, fun n => ⟨rfl, rfl, fun _ _ => rfl⟩, rfl,
      colours_initial, fun n => ⟨by rw [hframe]; rfl, by rw [hframe]; rfl, rfl⟩, fun a => by rw [hframe]; rfl, fun i => rfl,
      rfl, rfl, rfl, rfl, rfl, rfl, rfl, fun m => ?_⟩
    have hk : laneOf (joinPresent (resetAllBlocks s)) m = resetAllLane (laneOf s m) := by
      rw [laneOf, hlanes, Quad.get_map]; rfl
    rw [hk]
    refine ⟨?_, ?_, ?_, ?_, ?_, ?_, ?_, ?_, ?_, ?_, ?_, ?_, ?_, ?_, ?_, ?_, ?_, ?_, ?_, ?_⟩ <;> rfl

/-! ## Power-on reset -/

theorem exec_resetLow (i : Instr) (s : State) (h : s.pins.resetLow = true) (hp : i ≠ .powerOnReset)
    (hr : ∀ g order, i ≠ .resetRelease g order) : exec i s = .next s := by
  cases i with
  | powerOnReset => exact absurd rfl hp
  | resetRelease g order => exact absurd rfl (hr g order)
  | _ => exact whileRunning_low _ s h

/-- The undefined widths and coverage of a slot lie in their ranges (spec 04 R46). -/
theorem undefined_ranges (k n : Nat) : (fillWidths (.undefined k) n).2 ≤ (fillWidths (.undefined k) n).1 ∧
    (fillWidths (.undefined k) n).1 ≤ 64 ∧ ∀ row column, fillCoverage (.undefined k) n row column ≤ 15 :=
  ⟨Nat.min_le_right _ _, Nat.le_of_lt_succ (Config.freeAdvance k n).isLt,
    fun row column => Nat.le_of_lt_succ (Config.freeCoverage k n row column).isLt⟩

/-- The slot of a GLYPH_ROWS abandoned by a power-on reset, or a slot left wholly undefined (spec 04 R49). -/
theorem glyphAt_powerOnReset (s : State) (n : Nat) :
    ((∀ f, s.engine.op ≠ some (.glyphRows f n)) →
      glyphAt (powerOnReset s).glyphs n = Glyph.blank (.undefined (s.powerOns + 1))) ∧
    ∀ f, s.engine.op = some (.glyphRows f n) → glyphAt (powerOnReset s).glyphs n =
      Glyph.undefineRows (s.powerOns + 1) (glyphAt s.glyphs n) f.first.toNat f.rows.length := by
  have hget : glyphAt (powerOnReset s).glyphs n =
      Table.get (Glyph.blank (.undefined (s.powerOns + 1))) (abandonedSlots (s.powerOns + 1) s.glyphs s.engine.op) n := rfl
  have hset : ∀ (f : RowsFields) (slot : Nat), s.engine.op = some (.glyphRows f slot) →
      glyphAt (powerOnReset s).glyphs n = if slot = n then
        Glyph.undefineRows (s.powerOns + 1) (glyphAt s.glyphs slot) f.first.toNat f.rows.length
      else Glyph.blank (.undefined (s.powerOns + 1)) := fun f slot ho => by
    rw [hget, ho]
    exact Table.get_set _ [] slot n _ (wf_nil _)
  refine ⟨fun hn => ?_, fun f ho => by rw [hset f n ho, if_pos rfl]⟩
  cases ho : s.engine.op with
  | none => rw [hget, ho]; rfl
  | some op =>
    cases op with
    | fontClear font base count => rw [hget, ho]; rfl
    | glyphRows f slot =>
      have hne : slot ≠ n := fun h => hn f (by rw [ho, h])
      rw [hset f slot ho, if_neg hne]

theorem undefineRows_coverage (k : Nat) (x : Glyph) (first count n row column : Nat) :
    coverageIn (Glyph.undefineRows k x first count) n row column =
      if first ≤ row ∧ row < first + count then fillCoverage (.undefined k) n row column else coverageIn x n row column := by
  obtain ⟨rows, h, hfind⟩ := undefineRows_frame k x first count
  rw [h]
  simp only [coverageIn, hfind row]
  by_cases hin : first ≤ row ∧ row < first + count
  · rw [if_pos hin, if_pos hin]
  · rw [if_neg hin, if_neg hin]

theorem undefineRows_widths (k : Nat) (x : Glyph) (first count : Nat) :
    (Glyph.undefineRows k x first count).widths = x.widths ∧ (Glyph.undefineRows k x first count).fill = x.fill := by
  obtain ⟨rows, h, -⟩ := undefineRows_frame k x first count
  rw [h]; exact ⟨rfl, rfl⟩

/-- Settles O2: while the pin is low only the release acts; a power-on reset sets every item, but for the slot of a
GLYPH_ROWS in flight. -/
theorem powerOnResetSetsInitialValues : Obligations.PowerOnResetSetsInitialValues := by
  refine ⟨fun i s => exec_resetLow i s, fun s => ⟨powerOnReset s, rfl, rfl, rfl, rfl, rfl, rfl, rfl, rfl, rfl,
    (glyphStore_initial (.undefined (s.powerOns + 1))).1, (glyphStore_initial (.undefined (s.powerOns + 1))).2,
    fun n hn => ?_, fun f n ho => ⟨?_, ?_, fun row column => ⟨fun hout => ?_, fun h1 h2 => ?_⟩⟩, rfl, colours_initial,
    fun n _ => rfl, fun a => rfl, fun n => rfl, fun n => rfl, fun i => rfl, rfl, rfl, rfl, rfl, rfl, rfl, rfl, fun m => ?_,
    rfl, rfl, rfl, rfl, rfl, rfl, rfl, rfl, rfl, rfl, rfl, rfl, rfl, rfl, rfl, rfl, rfl, rfl, rfl⟩⟩
  · have hblank := (glyphAt_powerOnReset s n).1 hn
    obtain ⟨h1, h2, h3⟩ := undefined_ranges (s.powerOns + 1) n
    rw [bitmapOf, advanceOf, hblank]
    refine ⟨h1, h2, fun row column => ?_⟩
    rw [coverageOf_eq, hblank]
    exact h3 row column
  · obtain ⟨hw, hf⟩ := undefineRows_widths (s.powerOns + 1) (glyphAt s.glyphs n) f.first.toNat f.rows.length
    rw [advanceOf, (glyphAt_powerOnReset s n).2 f ho, hw, hf]; rfl
  · obtain ⟨hw, hf⟩ := undefineRows_widths (s.powerOns + 1) (glyphAt s.glyphs n) f.first.toNat f.rows.length
    rw [bitmapOf, (glyphAt_powerOnReset s n).2 f ho, hw, hf]; rfl
  · rw [coverageOf_eq, (glyphAt_powerOnReset s n).2 f ho, undefineRows_coverage, if_neg (by omega)]; rfl
  · rw [coverageOf_eq, (glyphAt_powerOnReset s n).2 f ho, undefineRows_coverage, if_pos ⟨h1, h2⟩]
    exact (undefined_ranges (s.powerOns + 1) n).2.2 row column
  · rw [laneOf_all .initial (powerOnReset s) m rfl]
    refine ⟨?_, ?_, ?_, ?_, ?_, ?_, ?_, ?_, ?_, ?_, ?_, ?_, ?_, ?_, ?_, ?_, ?_, ?_, ?_, ?_, ?_⟩ <;> rfl

end Sys2Proof.Machine
end

section
/-! PROOFS. The guard unit and the keyer at an output frame start (spec 10 R165, spec 11 R168): the moment at which FEED_LOSS is
evaluated, and the key before and after it. -/

namespace Sys2Proof.Machine

open Sys2Proof

/-! ## The acts of a frame start are distinct -/

theorem executed_nodup (done as : List FrameAct) :
    (executed done as).Nodup ∧ ∀ a ∈ executed done as, a ∉ done := by
  induction as generalizing done with
  | nil => exact ⟨List.nodup_nil, nofun⟩
  | cons b as ih =>
    unfold executed
    split
    · rename_i hb
      obtain ⟨hnd, hnot⟩ := ih (b :: done)
      refine ⟨List.nodup_cons.2 ⟨fun hm => hnot b hm List.mem_cons_self, hnd⟩, fun a ha => ?_⟩
      rcases List.mem_cons.1 ha with rfl | ha
      · exact not_mem_of_mayAct done _ hb
      · exact fun hd => hnot a ha (List.mem_cons_of_mem _ hd)
    · exact ih done

theorem actsMade_nodup (order : List FrameAct) : (actsMade order).Nodup := (executed_nodup [] _).1

/-- What acts of different names come before and after one of them. -/
theorem nodup_split {A B : List FrameAct} {a : FrameAct} (h : (A ++ a :: B).Nodup) :
    A.Nodup ∧ B.Nodup ∧ a ∉ A ∧ a ∉ B ∧ ∀ b ∈ A, b ∉ B := by
  obtain ⟨hA, haB, hdis⟩ := List.nodup_append.1 h
  obtain ⟨ha, hB⟩ := List.nodup_cons.1 haB
  exact ⟨hA, hB, fun hm => hdis a hm a List.mem_cons_self rfl, ha,
    fun b hb hm => hdis b hb b (List.mem_cons_of_mem _ hm) rfl⟩

/-! ## The key between the guard unit's acts -/

/-- The key moved by the fade step where the keyer is among the acts made (spec 10 R165). -/
def keyAfter (as : List FrameAct) (k : Keyer) : Keyer := if .keyer ∈ as then fadeStep k else k

theorem keyAfter_of_mem {as : List FrameAct} (h : .keyer ∈ as) (k : Keyer) : keyAfter as k = fadeStep k := if_pos h

theorem keyAfter_of_not_mem {as : List FrameAct} (h : .keyer ∉ as) (k : Keyer) : keyAfter as k = k := if_neg h

theorem runActs_key (s : State) (as : List FrameAct) (r : FrameRun) (hnd : as.Nodup) (hg : .guard ∉ as) :
    (runActs s as r).state.keyer = keyAfter as r.state.keyer := by
  by_cases hk : .keyer ∈ as
  · obtain ⟨A, B, rfl⟩ := List.append_of_mem hk
    obtain ⟨-, -, hA, hB, -⟩ := nodup_split hnd
    have hgA : .guard ∉ A := fun h => hg (List.mem_append_left _ h)
    have hgB : .guard ∉ B := fun h => hg (List.mem_append_right _ (List.mem_cons_of_mem _ h))
    have happ : runActs s (A ++ .keyer :: B) r =
        runActs s B (actStep (formatChanged s.timing) (runActs s A r) .keyer) := by simp [List.foldl_append]
    rw [happ, runActs_keyer s B _ hgB hB, keyAfter_of_mem hk]
    show fadeStep (runActs s A r).state.keyer = _
    rw [runActs_keyer s A r hgA hA]
  · rw [runActs_keyer s as r hg hk, keyAfter_of_not_mem hk]

/-! ## The moment of the guard unit's act -/

/-- The part as the guard unit finds it at an output frame start, `G` being the acts made before it and `H` those after it. -/
structure GuardMoment (order : List FrameAct) (s u : State) (G H : List FrameAct) : Prop where
  acts : actsMade order = G ++ .guard :: H
  at_ : u = (runOf s G).state
  guard : u.guard = s.guard
  quote : u.quote = s.quote ∨ u.quote = (frameStart order s).quote
  key : u.keyer = keyAfter G s.keyer
  guardAfter : (frameStart order s).guard = (guardEvaluate u).guard
  keyEnd : (frameStart order s).keyer = keyAfter H (guardEvaluate u).keyer
  rest : ∃ n q ls fs ll, u = { touchGuard u.guard n u.keyer (beginFrame s) with
    quote := q, lanes := ls, renderer := { (beginFrame s).renderer with frameSet := fs, lastLine := ll } }

theorem exists_guardMoment (order : List FrameAct) (s : State) : ∃ u G H, GuardMoment order s u G H := by
  obtain ⟨G, H, h, hG, hH⟩ := actsMade_split order _ (guard_mem_actsMade order)
  obtain ⟨hGnd, hHnd, -⟩ := nodup_split (h ▸ actsMade_nodup order)
  have hend : frameStart order s =
      endFrame (runActs s H (actStep (formatChanged s.timing) (runOf s G) .guard)) := by
    rw [frameStart_run, h, runOf_append]
  refine ⟨(runOf s G).state, G, H, h, rfl, runActs_guard s G _ hG, runOf_quote order G H _ s h,
    runActs_key s G _ hGnd hG, ?_, ?_, ?_⟩
  · rw [hend]; exact runActs_guard s H _ hH
  · rw [hend]; exact runActs_key s H _ hHnd hH
  · obtain ⟨g, n, k, q, ls, fs, ll, hr⟩ := runActs_frame s G (runBegin s)
    refine ⟨n, q, ls, fs, ll, ?_⟩
    have hg : (runOf s G).state.guard = g := by rw [hr]; rfl
    have hk : (runOf s G).state.keyer = k := by rw [hr]; rfl
    rw [hg, hk]; exact hr

/-- The keyer acts once, before the guard unit or after it. -/
theorem GuardMoment.key_cases {order : List FrameAct} {s u : State} {G H : List FrameAct}
    (m : GuardMoment order s u G H) :
    .keyer ∈ G ∧ .keyer ∉ H ∨ .keyer ∉ G ∧ .keyer ∈ H := by
  obtain ⟨-, -, -, -, hdis⟩ := nodup_split (m.acts ▸ actsMade_nodup order)
  have hmem := keyer_mem_actsMade order
  rw [m.acts] at hmem
  rcases List.mem_append.1 hmem with h | h
  · exact .inl ⟨h, hdis _ h⟩
  · have hH : .keyer ∈ H := (List.mem_cons.1 h).resolve_left nofun
    exact .inr ⟨fun hG => hdis _ hG hH, hH⟩

/-! ## The evaluation of FEED_LOSS -/

/-- Spec 11 R168, R170, R171: FEED_LOSS joins where it is enabled and its condition is present, and leaves where it is AUTO and
its condition is absent. -/
def feedLossAfter (g : GuardUnit) (q : QuoteUnit) : Bool :=
  if q.feedFrames ≠ 0 ∧ q.feedFrames ≤ q.feedAge then g.feedLoss.enabled || g.active.feedLoss
  else g.feedLoss.latched && g.active.feedLoss

theorem conditionPresent_feedLoss (s : State) :
    conditionPresent s .feedLoss = true ↔ s.quote.feedFrames ≠ 0 ∧ s.quote.feedFrames ≤ s.quote.feedAge := by
  simp [conditionPresent, feedLossPresent]

theorem guardEvaluate_moves (s : State) :
    MovesCause s (guardEvaluate s) { s.guard.active with feedLoss := feedLossAfter s.guard s.quote } := by
  unfold guardEvaluate feedLossAfter
  by_cases hc : conditionPresent s .feedLoss = true
  · rw [if_pos hc, if_pos ((conditionPresent_feedLoss s).1 hc), Bool.or_comm]
    exact causeOnset_moves .feedLoss s
  · rw [if_neg hc, if_neg fun h => hc ((conditionPresent_feedLoss s).2 h), Bool.and_comm]
    exact causeEnd_moves .feedLoss s

/-- Spec 11 R174: a change of the set is followed by a recomputation. -/
theorem guardEvaluate_follows (s : State) (h : (guardEvaluate s).guard.active ≠ s.guard.active) :
    GuardFollowsCauses (guardEvaluate s) := by
  rcases guardEvaluate_cases s with he | ⟨b, he⟩
  · exact absurd (by rw [he]) h
  · rw [he]; exact recompute_state _

/-- A slate resolved from the same tables is the same slate, whatever was counted before. -/
theorem ResolvesSlate.unique {s s' : State} {slate : Option SlateConfig} {a b : Counter} {t u : State}
    (h : ResolvesSlate s slate a t) (h' : ResolvesSlate s' slate b u) (hi : s'.items = s.items)
    (hst : s'.styles = s.styles) (ht : s'.text = s.text)
    (hadv : ∀ f codes, advanceTotal s'.glyphs f codes = advanceTotal s.glyphs f codes) :
    t.guard.resolved = u.guard.resolved ∧ t.guard.slateFault = u.guard.slateFault := by
  have hpass : ∀ c x codes, SlatePasses s' c x codes ↔ SlatePasses s c x codes := fun c x codes => by
    simp only [SlatePasses, itemAt, styleAt, hi, hst, ht]
  by_cases hsome : ∃ c x codes, slate = some c ∧ SlatePasses s c x codes
  · obtain ⟨c, x, codes, hc, hp⟩ := hsome
    obtain ⟨hf, hr, -⟩ := h.1 c x codes hc hp
    obtain ⟨hf', hr', -⟩ := h'.1 c x codes hc ((hpass c x codes).2 hp)
    rw [hf, hr, hf', hr', hadv]
    exact ⟨rfl, rfl⟩
  · obtain ⟨hf, hr, -⟩ := h.2 fun c x codes hc hp => hsome ⟨c, x, codes, hc, hp⟩
    obtain ⟨hf', hr', -⟩ := h'.2 fun c x codes hc hp => hsome ⟨c, x, codes, hc, (hpass c x codes).1 hp⟩
    rw [hf, hr, hf', hr']
    exact ⟨rfl, rfl⟩

/-! ## The fade step -/

/-- The fade step moves the level alone (spec 10 R165). -/
theorem fadeStep_eq (k : Keyer) : fadeStep k = { k with level := (fadeStep k).level } := by
  unfold fadeStep
  split
  · rfl
  · split
    · rfl
    · split <;> rfl

theorem keyAfter_eq (as : List FrameAct) (k : Keyer) : keyAfter as k = { k with level := (keyAfter as k).level } := by
  unfold keyAfter
  split
  · exact fadeStep_eq k
  · rfl

/-- A key at its target stays (spec 10 R165). -/
theorem keyAfter_of_rested (as : List FrameAct) (k : Keyer) (h : k.level = k.target.level) : keyAfter as k = k := by
  unfold keyAfter fadeStep
  simp [h]

theorem stepToward_self (v n : Nat) : stepToward v v n = v := by
  unfold stepToward; rw [if_neg (Nat.lt_irrefl v)]; omega

theorem fadeStep_cut (k : Keyer) (hs : k.source = .key) (hf : k.keyFade = 0) : (fadeStep k).level = k.target.level := by
  unfold fadeStep
  split
  · assumption
  · simp only [hs]

theorem fadeStep_stride (k : Keyer) (n : Nat) (h : k.source = .guard n ∨ k.source = .key ∧ k.keyFade ≠ 0 ∧
    n = (256 + k.keyFade - 1) / k.keyFade) : (fadeStep k).level = stepToward k.level k.target.level n := by
  unfold fadeStep
  by_cases hl : k.level = k.target.level
  · rw [if_pos hl, hl, stepToward_self]
  · rw [if_neg hl]
    rcases h with h | ⟨h, hf, rfl⟩
    · rw [h]
    · rw [h, if_neg hf]; rfl

/-! ## What the fade step leaves of the guard unit's directions -/

theorem FadesToZero.after {s t : State} (h : FadesToZero s t) (as : List FrameAct) :
    (keyAfter as t.keyer).target = .off ∧ (s.guard.guardFade = 0 → (keyAfter as t.keyer).level = 0) ∧
      (s.guard.guardFade ≠ 0 → (keyAfter as t.keyer).source =
        .guard ((256 + s.guard.guardFade - 1) / s.guard.guardFade)) := by
  obtain ⟨hk, hsource⟩ := h
  have htarget : t.keyer.target = .off := by rw [hk]
  rw [keyAfter_eq]
  refine ⟨htarget, fun h0 => ?_, hsource⟩
  have hlevel : t.keyer.level = 0 := by rw [hk]; exact if_pos h0
  rw [keyAfter_of_rested as _ (by rw [hlevel, htarget]; rfl)]
  exact hlevel

/-- The acts on a change, as they are left at the end of the frame start (spec 11 R175). -/
theorem GuardActs.clears {u v : State} (h : GuardActs u v) (hu : u.guard.state ≠ .guarded .clear)
    (hv : v.guard.state = .guarded .clear) : FadesToZero u v := by
  obtain ⟨-, -, -, -, -, hfade, hback, -, -, -⟩ := h
  cases hs : u.guard.state with
  | normal => exact (hfade hs hv).1
  | guarded a =>
    cases a with
    | clear => exact absurd hs hu
    | slate => exact (hback hs hv).1

theorem GuardActs.withdraws {u v : State} (h : GuardActs u v) (hu : u.guard.state = .guarded .slate)
    (hv : v.guard.state ≠ .guarded .slate) : v.guard.resolved = none := by
  obtain ⟨-, -, -, -, -, -, hback, -, hrelease, -⟩ := h
  cases hs : v.guard.state with
  | normal => exact (hrelease (by rw [hu]; exact nofun) hs).1
  | guarded a =>
    cases a with
    | clear => exact (hback hu hs).2
    | slate => exact absurd hs hv

/-- Settles O10: the guard unit acts once, on the part as it finds it, and the fade step goes before it or after it. -/
theorem frameStartFadesTheKey : Obligations.FrameStartFadesTheKey := by
  intro order s hpin
  obtain ⟨u, G, H, m⟩ := exists_guardMoment order s
  have hmoves := guardEvaluate_moves u
  have hfollows := guardEvaluate_follows u
  obtain ⟨n, q, ls, fs, ll, hu⟩ := m.rest
  have hug := m.guard
  refine ⟨frameStart order s, u.quote, exec_outputFrameStart order s hpin, m.quote, ?_⟩
  rw [m.guardAfter, m.keyEnd]
  generalize guardEvaluate u = v at hmoves hfollows
  have hactive := hmoves.active
  rw [hug] at hactive hfollows
  have hchange : v.guard.state ≠ s.guard.state → GuardActs u v := fun hne =>
    hmoves.acts fun he => hne (by rw [hmoves.stays he, hug])
  refine ⟨?_, hactive, fun he => ?_, hfollows, fun hs hv => ?_, fun hs hv => ?_, fun hs hv => ?_, fun hs => ?_,
    fun hs hv => ?_⟩
  · by_cases he : v.guard.active = u.guard.active
    · rw [hmoves.stays he, hug]
    · obtain ⟨-, -, hg, -⟩ := hmoves.acts he
      rw [← hug]; exact hg
  · have hstays := hmoves.stays (by rw [he, hug])
    have hkey : keyAfter H v.keyer = fadeStep s.keyer := by
      rw [hstays, m.key]
      rcases m.key_cases with ⟨h1, h2⟩ | ⟨h1, h2⟩
      · rw [keyAfter_of_not_mem h2, keyAfter_of_mem h1]
      · rw [keyAfter_of_mem h2, keyAfter_of_not_mem h1]
    rw [hkey, hstays, hug]
    exact ⟨rfl, fadeStep_eq s.keyer, fadeStep_cut s.keyer, fun n hn => fadeStep_stride s.keyer n hn⟩
  · have hfade := (hchange (by rw [hv]; exact hs.symm)).clears (by rw [hug]; exact hs) hv
    obtain ⟨h1, h2, h3⟩ := hfade.after H
    rw [hug] at h2 h3
    exact ⟨h1, h2, h3⟩
  · obtain ⟨-, -, -, -, -, -, -, hcut, -, -⟩ := hchange (by rw [hv]; exact hs.symm)
    obtain ⟨hk, hres⟩ := hcut (by rw [hug]; exact hs) hv
    have hoff : v.keyer.target = .off ∧ v.keyer.level = 0 := by rw [hk]; exact ⟨rfl, rfl⟩
    rw [keyAfter_of_rested H v.keyer (by rw [hoff.1, hoff.2]; rfl)]
    refine ⟨hoff.1, hoff.2, resolveSlate s, resolveSlate_resolves s, ?_⟩
    rw [hug] at hres
    refine hres.unique (resolveSlate_resolves s) ?_ ?_ ?_ fun f codes => ?_ <;> rw [hu]
    · rfl
    · rfl
    · rfl
    · exact (advanceTotal_missing s.glyphs n f codes).symm
  · exact (hchange (by rw [hs]; exact hv)).withdraws (by rw [hug]; exact hs) hv
  · by_cases he : v.guard.active = u.guard.active
    · rw [hmoves.stays he, hug]
    · obtain ⟨-, -, -, -, -, -, -, -, -, hkeeps⟩ := hmoves.acts he
      rw [← hug] at hs ⊢
      exact (hkeeps hs).1
  · obtain ⟨-, -, -, -, -, -, -, -, hrelease, -⟩ := hchange (by rw [hv]; exact hs.symm)
    obtain ⟨-, hk⟩ := hrelease (by rw [hug]; exact hs) hv
    have hkeyer : v.keyer.target = s.keyer.wish ∧ v.keyer.source = .key := by
      rw [hk, m.key, keyAfter_eq]; exact ⟨rfl, rfl⟩
    rw [keyAfter_eq]
    exact hkeyer

end Sys2Proof.Machine
end

section
/-! PROOFS. What an output frame start makes in whatever order the blocks act (spec 01 R9), the status report it takes (spec 12
R184) and the two report lines (spec 12 R183, R187, R188). -/

namespace Sys2Proof.Machine

open Sys2Proof

/-! ## The renderer -/

/-- The renderer is moved by the drawing of a line alone. -/
theorem makeAct_renderer (changed : Bool) (a : FrameAct) (r : FrameRun) (h : ∀ p, a ≠ .line p) :
    (makeAct changed a r).state.renderer = r.state.renderer := by
  cases a with
  | line p => exact absurd rfl (h p)
  | guard => obtain ⟨g, n, k, h⟩ := guardEvaluate_touches r.state; simp only [makeAct, h]; rfl
  | _ => rfl

theorem runActs_renderer (s : State) (as : List FrameAct) (r : FrameRun) (h : ∀ p, .line p ∉ as) :
    (runActs s as r).state.renderer = r.state.renderer :=
  foldl_actStep_keeps (fun r => r.state.renderer) _ as
    (fun a ha r => makeAct_renderer _ a r (fun p he => h p (he ▸ ha))) r

/-- Either no line is drawn at an output frame start, or one is, at a place of the order (log 5). -/
theorem actsMade_lines (order : List FrameAct) : (∀ p, .line p ∉ actsMade order) ∨
    ∃ A B p, actsMade order = A ++ .line p :: B ∧ .line p ∈ order ∧ (∀ q, .line q ∉ A) ∧ ∀ q, .line q ∉ B := by
  by_cases h : ∃ p, .line p ∈ actsMade order
  · obtain ⟨p, hp⟩ := h
    obtain ⟨A, B, he, -⟩ := actsMade_split order _ hp
    obtain ⟨hA, hB⟩ := actsMade_line order A B p he
    exact .inr ⟨A, B, p, he, line_mem_order order p hp, hA, hB⟩
  · exact .inl fun p hp => h ⟨p, hp⟩

/-- The line drawn last after an output frame start is the one before it, or the line overtaken (spec 10 R154, log 15). -/
theorem frameStart_lastLine (order : List FrameAct) (s : State) :
    (drawsNoLine order → (frameStart order s).renderer.lastLine = s.renderer.lastLine) ∧
    ((frameStart order s).renderer.lastLine = s.renderer.lastLine ∨ ∃ fr programme px, s.timing.frame = some fr ∧
      FrameAct.line programme ∈ order ∧ s.renderer.nextLine < activeLines fr.format ∧
      px.length = activeWidth fr.format ∧
      (frameStart order s).renderer.lastLine = some (s.renderer.nextLine, px)) := by
  have hend : (frameStart order s).renderer.lastLine = (runOf s (actsMade order)).state.renderer.lastLine := by
    rw [frameStart_run]; rfl
  rw [hend]
  rcases actsMade_lines order with hno | ⟨A, B, p, he, hp, hA, hB⟩
  · have hsame : (runOf s (actsMade order)).state.renderer.lastLine = s.renderer.lastLine := by
      rw [runActs_renderer s _ _ hno]; rfl
    exact ⟨fun _ => hsame, .inl hsame⟩
  · refine ⟨fun hno => absurd hp (hno p), ?_⟩
    have hbefore : (runOf s A).state.renderer.lastLine = s.renderer.lastLine := by
      rw [runActs_renderer s _ _ hA]; rfl
    have hact : (actStep (formatChanged s.timing) (runOf s A) (.line p)).state = overtakeLine s p (runOf s A).state :=
      congrArg (overtakeLine · p (runOf s A).state) (runActs_ending s A (runBegin s))
    rw [he, runOf_append, runActs_renderer s B _ hB, hact]
    rcases overtakeLine_cases s p (runOf s A).state with ho | ⟨fr, hf, hn, ho⟩
    · exact .inl (by rw [ho, hbefore])
    · obtain ⟨ls, q, hmix, -⟩ := mixLine_frame s.palette fr s.renderer.nextLine p (runOf s A).state
      exact .inr ⟨fr, p, _, hf, hp, hn, renderLine_length (runOf s A).state s.palette fr s.renderer.nextLine p,
        by rw [ho, hmix]⟩

/-! ## The blocks that the report reads -/

/-- The key after the acts on a change depends on the key before and the guard fade frames alone (spec 10 R166). -/
theorem actOnChange_keyer (a b : GuardState) (s u : State) (hk : u.keyer = s.keyer)
    (hg : u.guard.guardFade = s.guard.guardFade) : (actOnChange a b u).keyer = (actOnChange a b s).keyer := by
  have hfade : fadeToZero u.guard.guardFade u.keyer = fadeToZero s.guard.guardFade s.keyer := by rw [hk, hg]
  have hcut : (resolveSlate (sendCut u)).keyer = (resolveSlate (sendCut s)).keyer := by
    rw [resolveSlate_keyer, resolveSlate_keyer]
    exact congrArg cutToZero hk
  have hrelease : releaseKey u.keyer = releaseKey s.keyer := by rw [hk]
  match a, b with
  | .normal, .normal => exact hk
  | .normal, .guarded .clear => exact hfade
  | .normal, .guarded .slate => exact hcut
  | .guarded .clear, .normal => exact hrelease
  | .guarded .clear, .guarded .clear => exact hk
  | .guarded .clear, .guarded .slate => exact hcut
  | .guarded .slate, .normal => exact hrelease
  | .guarded .slate, .guarded .clear => exact hfade
  | .guarded .slate, .guarded .slate => exact hk

theorem actOnChange_self (a : GuardState) (s : State) : actOnChange a a s = s := by
  match a with
  | .normal | .guarded .clear | .guarded .slate => rfl

/-- The guard unit's act moves the key by the table of spec 11 R175. -/
theorem guardEvaluate_keyer (s : State) :
    (guardEvaluate s).keyer = (actOnChange s.guard.state (guardEvaluate s).guard.state s).keyer := by
  rcases guardEvaluate_cases s with h | ⟨b, h⟩
  · rw [h, actOnChange_self]
  · rw [h, recompute_guard_state]
    exact actOnChange_keyer _ _ s _ rfl rfl

/-- Spec 12 R184: the report reads the guard before or after its evaluation, and the key before or after what moves it
(log 6). -/
theorem exists_reportMoment (order : List FrameAct) (s : State) : ∃ A B g k, actsMade order = A ++ .report :: B ∧
    (runOf s A).state.guard = g ∧ (runOf s A).state.keyer = k ∧
    (g = s.guard ∨ g = (frameStart order s).guard) ∧
    (k = s.keyer ∨ k = fadeStep s.keyer ∨
      k = (actOnChange s.guard.state (frameStart order s).guard.state s).keyer ∨ k = (frameStart order s).keyer) := by
  obtain ⟨u, G, H, m⟩ := exists_guardMoment order s
  obtain ⟨hGnd, hHnd, hG, hH, -⟩ := nodup_split (m.acts ▸ actsMade_nodup order)
  have hmem := report_mem_actsMade order
  rw [m.acts] at hmem
  rcases List.mem_append.1 hmem with h | h
  · obtain ⟨C, D, rfl⟩ := List.append_of_mem h
    obtain ⟨hC, -⟩ := nodup_split hGnd
    have hgC : .guard ∉ C := fun hm => hG (List.mem_append_left _ hm)
    refine ⟨C, D ++ .guard :: H, _, _, by rw [m.acts]; simp, rfl, rfl, .inl (runActs_guard s C _ hgC), ?_⟩
    rw [runActs_key s C _ hC hgC]
    by_cases hk : .keyer ∈ C
    · exact .inr (.inl (keyAfter_of_mem hk _))
    · exact .inl (keyAfter_of_not_mem hk _)
  · obtain ⟨C, D, rfl⟩ := List.append_of_mem ((List.mem_cons.1 h).resolve_left nofun)
    obtain ⟨hC, -, -, -, hdis⟩ := nodup_split hHnd
    have hgC : .guard ∉ C := fun hm => hH (List.mem_append_left _ hm)
    have hmoment : runOf s (G ++ .guard :: C) = runActs s C (actStep (formatChanged s.timing) (runOf s G) .guard) :=
      runOf_append s G C .guard
    have hact : (actStep (formatChanged s.timing) (runOf s G) .guard).state = guardEvaluate u := by
      rw [m.at_]; rfl
    refine ⟨G ++ .guard :: C, D, _, _, by rw [m.acts]; simp, rfl, rfl, .inr ?_, ?_⟩
    · rw [hmoment, runActs_guard s C _ hgC, hact, m.guardAfter]
    · rw [hmoment, runActs_key s C _ hC hgC, hact, m.keyEnd]
      by_cases hk : .keyer ∈ C
      · have hkH : .keyer ∈ C ++ .report :: D := List.mem_append_left _ hk
        exact .inr (.inr (.inr (by rw [keyAfter_of_mem hk, keyAfter_of_mem hkH])))
      · rw [keyAfter_of_not_mem hk]
        rcases m.key_cases with ⟨h1, h2⟩ | ⟨h1, h2⟩
        · exact .inr (.inr (.inr (keyAfter_of_not_mem h2 _).symm))
        · have hkey : u.keyer = s.keyer := by rw [m.key, keyAfter_of_not_mem h1]
          refine .inr (.inr (.inl ?_))
          rw [guardEvaluate_keyer, m.guardAfter, m.guard]
          exact actOnChange_keyer _ _ s u hkey (by rw [m.guard])

/-! ## The status report -/

theorem stagingByte_eq (z : Lane) :
    byte (stagingCode z) = if z.slot.isSome then 1 else if z.starved then 2 else 0 := by
  unfold stagingCode
  cases z.slot.isSome <;> cases z.starved <;> rfl

/-- The twelve bytes of a lane (spec 12 section 12.5, spec 07 R119). -/
theorem laneStatus_eq (z : Lane) : laneStatus z = [byte (laneStateCode z.state)] ++ bytes2 z.speed ++
    [byte z.screen.length, if z.slot.isSome then 1 else if z.starved then 2 else 0, byte z.interjections.length,
      byte (match z.interjections with
        | [] => z.cursor
        | i :: _ => i.cursor)] ++
    bytes2 z.faults ++ match z.lastFault with
      | none => [0xFF, 0xFF, 0]
      | some (n, f) => bytes2 n ++ [byte (faultCode f)] := by
  rw [← stagingByte_eq, laneStatus, activeCursor]
  cases z.interjections <;> rcases z.lastFault with _ | ⟨n, f⟩ <;> rfl

theorem laneStatus_length (z : Lane) : (laneStatus z).length = 12 := by
  unfold laneStatus
  rcases z.lastFault with _ | ⟨n, f⟩ <;> rfl

theorem lastRefusalBytes_length (r : Option RefusalRecord) : (lastRefusalBytes r).length = 6 := by
  cases r <;> rfl

theorem statusPayload_length (c : Counter) (h : StatusHead) (ls : Quad Lane) : (statusPayload c h ls).length = 72 := by
  unfold statusPayload
  simp only [List.length_append, laneStatus_length, lastRefusalBytes_length]
  cases h.guard <;> rfl

theorem causeSetByte_eq (c : CauseSet) : causeSetByte c = byte (c.inputLoss.toNat + 2 * c.feedLoss.toNat +
    4 * c.intakeOverrun.toNat + 8 * c.manual.toNat) := by
  simp only [causeSetByte, ite_eq_toNat_mul, Nat.mul_comm _ 2, Nat.mul_comm _ 4, Nat.mul_comm _ 8,
    Nat.mul_one]

theorem keyStateByte_eq (k : Keyer) : byte (keyStateCode (keyState k)) = match k.target with
    | .on => if k.level < 256 then 1 else 2
    | .off => if 0 < k.level then 3 else 0 := by
  unfold keyState
  cases k.target with
  | on => dsimp only; split <;> rfl
  | off => dsimp only; split <;> rfl

/-- The status report of the blocks as they stand, the lanes given apart (spec 12 section 12.5). -/
theorem statusPayload_readHead (c : Counter) (u : State) (ls : Quad Lane) : statusPayload c (readHead u) ls =
    bytes2 c.toNat ++
      [byte (inputStateCode u.input.state), match u.input.lockedFormat with
        | none => 0xFF
        | some f => byte (formatIndex f)] ++
      (match u.guard.state with
        | .normal => [0, 0xFF]
        | .guarded .clear => [1, 0]
        | .guarded .slate => [1, 1]) ++
      [byte (u.guard.active.inputLoss.toNat + 2 * u.guard.active.feedLoss.toNat +
          4 * u.guard.active.intakeOverrun.toNat + 8 * u.guard.active.manual.toNat),
        byte u.guard.slateFault.toNat, match u.keyer.target with
          | .on => if u.keyer.level < 256 then 1 else 2
          | .off => if 0 < u.keyer.level then 3 else 0] ++ bytes2 u.keyer.level ++
      laneStatus ls.q0 ++ laneStatus ls.q1 ++ laneStatus ls.q2 ++ laneStatus ls.q3 ++
      [byte u.intake.queue.length, byte u.intake.latch.toNat] ++ bytes2 u.intake.dropped.toNat ++
      [byte u.engine.op.isSome.toNat] ++ bytes2 u.engine.refusals.toNat ++ match u.engine.last with
        | none => [0, 0, 0, 0, 0, 0]
        | some r => [1, r.seq, r.code, byte (reasonCode r.reason)] ++ bytes2 r.frameCount.toNat := by
  have hguard : (match u.guard.state with
      | .normal => [0, 0xFF]
      | .guarded a => [1, byte (actionCode a)] : List Byte) = match u.guard.state with
        | .normal => [0, 0xFF]
        | .guarded .clear => [1, 0]
        | .guarded .slate => [1, 1] := by
    match u.guard.state with
    | .normal | .guarded .clear | .guarded .slate => rfl
  have hlocked : (match u.input.lockedFormat with
      | some f => byte (formatIndex f)
      | none => 0xFF : Byte) = match u.input.lockedFormat with
        | none => 0xFF
        | some f => byte (formatIndex f) := by
    cases u.input.lockedFormat <;> rfl
  have hlast : lastRefusalBytes u.engine.last = match u.engine.last with
      | none => [0, 0, 0, 0, 0, 0]
      | some r => [1, r.seq, r.code, byte (reasonCode r.reason)] ++ bytes2 r.frameCount.toNat := by
    cases u.engine.last <;> rfl
  rw [← causeSetByte_eq, ← keyStateByte_eq, ← flagByte_eq, ← flagByte_eq, ← flagByte_eq, ← hlast, ← hguard, ← hlocked]
  rfl

/-! ## The report lines -/

/-- A report packet on the wire: its bytes from the address on sum to 0 (spec 12 R188). -/
theorem reportPacket_sum (a kind free seq : Byte) (payload : List Byte) : ∃ sum,
    reportPacket a kind free seq payload =
      [0x9A, 0x53] ++ ([a, kind, free, seq, byte payload.length] ++ payload ++ [sum]) ∧
    (([a, kind, free, seq, byte payload.length] ++ payload ++ [sum]).map BitVec.toNat).sum % 256 = 0 := by
  refine ⟨_, rfl, ?_⟩
  rw [← byteSum_toNat]
  exact congrArg BitVec.toNat (byteSum_packetBytes a kind free seq payload)

/-- The replies stand one after another, each in a packet of its own (spec 12 R183, R188). -/
theorem replyPackets_flatten (a : Byte) (c : Counter) (i : Nat) (rs : List Reply) : ∃ packets : List (List Byte),
    packets.length = rs.length ∧ replyPackets a c i rs = packets.flatten ∧
    ∀ (j : Nat) (r : Reply) (bs : List Byte), rs[j]? = some r → packets[j]? = some bs →
      ∃ free, bs = reportPacket a 1 free r.seq r.payload := by
  induction rs generalizing i with
  | nil => exact ⟨[], rfl, rfl, fun j r bs h => by simp at h⟩
  | cons r rs ih =>
    obtain ⟨packets, hlen, hflat, hall⟩ := ih (i + 1)
    refine ⟨reportPacket a 1 (Config.freeReportCode c.toNat i) r.seq r.payload :: packets, by simp [hlen], ?_, ?_⟩
    · rw [List.flatten_cons, ← hflat]; rfl
    · intro j r' bs hr hb
      cases j with
      | zero => cases hr; cases hb; exact ⟨_, rfl⟩
      | succ j => exact hall j r' bs hr hb

/-! ## The frame start as a whole -/

/-- What an output frame start leaves of the blocks that do not act at it (spec 01 R9). -/
theorem frameStart_rest (order : List FrameAct) (s : State) : ∃ g n k q ls fs ll,
    frameStart order s = writeReports (runOf s (actsMade order)).head { touchGuard g n k (beginFrame s) with
      quote := q, lanes := ls
      renderer := { (beginFrame s).renderer with frameSet := some fs, lastLine := ll } } := by
  obtain ⟨g, n, k, q, ls, fs, ll, h⟩ := runActs_frame s (actsMade order) (runBegin s)
  refine ⟨g, n, k, q, ls, (runOf s (actsMade order)).snaps, ll, ?_⟩
  rw [frameStart_run, endFrame, h]
  rfl

/-- The report of an output frame start is the one its act has read (spec 12 R184). -/
theorem runOf_head (order A B : List FrameAct) (s : State) (h : actsMade order = A ++ .report :: B) :
    (runOf s (actsMade order)).head = readHead (runOf s A).state := by
  obtain ⟨-, -, -, hB, -⟩ := nodup_split (h ▸ actsMade_nodup order)
  rw [h, runOf_append, runActs_head s B _ hB]
  rfl

/-- The settings that the evaluation of FEED_LOSS does not move. -/
theorem guardEvaluate_settings (s : State) : (guardEvaluate s).keyer.wish = s.keyer.wish ∧
    (guardEvaluate s).keyer.keyFade = s.keyer.keyFade ∧ (guardEvaluate s).guard.slate = s.guard.slate ∧
    (guardEvaluate s).guard.manual = s.guard.manual ∧
    ∀ k, causeConfig (guardEvaluate s).guard k = causeConfig s.guard k := by
  rcases guardEvaluate_cases s with h | ⟨b, h⟩
  · rw [h]; exact ⟨rfl, rfl, rfl, rfl, fun _ => rfl⟩
  · obtain ⟨r, f, n, y, he, hw, hk⟩ := recompute_frame (markCause .feedLoss b s)
    rw [h, he]
    exact ⟨hw, hk, rfl, rfl, fun k => by cases k <;> rfl⟩

theorem frameStart_settings (order : List FrameAct) (s : State) : (frameStart order s).keyer.wish = s.keyer.wish ∧
    (frameStart order s).keyer.keyFade = s.keyer.keyFade ∧ (frameStart order s).guard.slate = s.guard.slate ∧
    (frameStart order s).guard.manual = s.guard.manual ∧
    ∀ k, causeConfig (frameStart order s).guard k = causeConfig s.guard k := by
  obtain ⟨u, G, H, m⟩ := exists_guardMoment order s
  obtain ⟨hw, hk, hs, hm, hc⟩ := guardEvaluate_settings u
  have hkey : u.keyer.wish = s.keyer.wish ∧ u.keyer.keyFade = s.keyer.keyFade := by
    rw [m.key, keyAfter_eq]; exact ⟨rfl, rfl⟩
  rw [m.guardAfter, m.keyEnd, keyAfter_eq]
  rw [m.guard] at hs hm hc
  exact ⟨hw.trans hkey.1, hk.trans hkey.2, hs, hm, hc⟩

/-- Settles O8: the blocks that do not act are as they were, and the report is read at its act. -/
theorem frameStartInAnyOrder : Obligations.FrameStartInAnyOrder := by
  refine ⟨fun order s hpin => ?_, fun s fr => ?_, by decide, by decide, by decide, by decide, by decide⟩
  · obtain ⟨A, B, g, k, he, hg, hk, hgs, hks⟩ := exists_reportMoment order s
    obtain ⟨hlast, hlast'⟩ := frameStart_lastLine order s
    obtain ⟨hwish, hfade, hslate, hmanual, hcfg⟩ := frameStart_settings order s
    have htiming := frameStart_timing order s
    have hhead := runOf_head order A B s he
    obtain ⟨g', n', k', q', ls', fs', ll', hr⟩ := runActs_frame s A (runBegin s)
    obtain ⟨g'', n'', k'', q'', ls'', fs'', ll'', ht⟩ := frameStart_rest order s
    rw [hhead] at ht
    have hlines : (frameStart order s).report.lines = some
        { count := s.timing.counter + 1
          status := statusPayload (s.timing.counter + 1) (readHead (runOf s A).state) (frameStart order s).lanes
          replies := s.report.replies.take 3 } := by rw [ht]; rfl
    refine ⟨frameStart order s, exec_outputFrameStart order s hpin, by rw [htiming]; rfl, by rw [htiming]; rfl,
      by rw [htiming]; rfl, by rw [htiming]; rfl, by rw [ht]; rfl, by rw [ht]; rfl, by rw [ht]; rfl, by rw [ht]; rfl,
      by rw [ht]; rfl, ⟨_, hlines, rfl, rfl, statusPayload_length _ _ _, g, k, hgs, hks, ?_⟩, by rw [ht]; rfl,
      by rw [ht]; rfl, by rw [ht]; rfl, by rw [ht]; rfl, by rw [ht]; rfl, by rw [ht]; rfl, by rw [ht]; rfl,
      by rw [ht]; rfl, by rw [ht]; rfl, hlast, hlast', by rw [htiming]; rfl, hwish, hfade, hslate, hmanual, hcfg⟩
    intro lane
    have hlane : ∀ m, laneStatus (laneOf (frameStart order s) m) = lane m := fun m =>
      laneStatus_eq (laneOf (frameStart order s) m)
    have hinput : (runOf s A).state.input = s.input := by rw [hr]; rfl
    have hintake : (runOf s A).state.intake = s.intake := by rw [hr]; rfl
    have hengine : (runOf s A).state.engine = s.engine := by rw [hr]; rfl
    rw [← hlane 0, ← hlane 1, ← hlane 2, ← hlane 3, ← hg, ← hk, ← hinput, ← hintake, ← hengine]
    exact statusPayload_readHead (s.timing.counter + 1) (runOf s A).state (frameStart order s).lanes
  · intro sample packet
    refine ⟨fun l hl => ⟨?_, ?_⟩, fun hnone => ⟨?_, ?_⟩, fun i h4 h5 => ?_⟩
    · obtain ⟨sum, hbytes, hsum⟩ := reportPacket_sum (byte (deviceAddress s)) 0 (Config.freeReportCode l.count.toNat 0)
        (byte l.count.toNat) l.status
      refine ⟨_, ⟨_, sum, hbytes, hsum⟩, ?_⟩
      show firstReportLine s = _
      simp only [firstReportLine, hl]
      rfl
    · obtain ⟨packets, hlen, hflat, hall⟩ := replyPackets_flatten (byte (deviceAddress s)) l.count 1 l.replies
      refine ⟨packets, hlen, ?_, fun i r bs hr hb => ?_⟩
      · show secondReportLine s = _
        simp only [secondReportLine, hl, hflat]
        rfl
      · obtain ⟨free, rfl⟩ := hall i r bs hr hb
        obtain ⟨sum, hbytes, hsum⟩ := reportPacket_sum (byte (deviceAddress s)) 1 free r.seq r.payload
        exact ⟨free, sum, hbytes, hsum⟩
    · show firstReportLine s = _
      simp only [firstReportLine, hnone]
    · show secondReportLine s = _
      simp only [secondReportLine, hnone]
    · exact (if_neg h4).trans (if_neg h5)

end Sys2Proof.Machine
end

section
/-! PROOFS. The stages of a lane (spec 07 R114): what a refill reads of the part, what marks leave of the stages, and what the
placement of a lane makes of its on-screen list. -/

namespace Sys2Proof.Machine

open Sys2Proof

/-! ## What a refill reads of the part -/

/-- The tables that staging reads: the items, styles and text, the quote unit, and the glyph store but for its counter. -/
structure SameTables (u v : State) : Prop where
  items : u.items = v.items
  styles : u.styles = v.styles
  text : u.text = v.text
  quote : u.quote = v.quote
  glyphs : ∃ n, u.glyphs = { v.glyphs with missing := n }

theorem SameTables.testEntry {u v : State} (h : SameTables u v) (l : Lane) (n : Nat) :
    testEntry u l n = testEntry v l n := by
  have hstyle : ∀ i, resolveStyle u l i = resolveStyle v l i := fun i => by
    simp only [resolveStyle, styleAt, h.styles]
  have hbody : ∀ b, testBody u b = testBody v b := fun b => by
    cases b <;> simp only [testBody, h.quote]
  simp only [Machine.testEntry, itemAt, h.items, hstyle, hbody]

theorem SameTables.walk {u v : State} (h : SameTables u v) (l : Lane) (ns : List Nat) : walk u l ns = walk v l ns := by
  induction ns with
  | nil => rfl
  | cons n ns ih => simp only [Machine.walk, h.testEntry, ih]

theorem missingTotal_missing (g : GlyphStore) (n : Counter) (f : Nat) (codes : List Byte) :
    missingTotal { g with missing := n } f codes = missingTotal g f codes := by
  rw [missingTotal_countP, missingTotal_countP]; rfl

theorem SameTables.measuredCodes {u v : State} (h : SameTables u v) (l : Lane) (c : Candidate) :
    measuredCodes u l c = measuredCodes v l c := by
  simp only [Machine.measuredCodes, h.text, h.quote]

theorem SameTables.stagedOf {u v : State} (h : SameTables u v) (l : Lane) (c : Candidate) (p : Option Nat) :
    stagedOf u l c p = stagedOf v l c p := by
  obtain ⟨n, hg⟩ := h.glyphs
  simp only [Machine.stagedOf, slotWidth, h.measuredCodes, hg, advanceTotal_missing]

theorem SameTables.candidateMissing {u v : State} (h : SameTables u v) (l : Lane) (c : Candidate) :
    candidateMissing u l c = candidateMissing v l c := by
  obtain ⟨n, hg⟩ := h.glyphs
  simp only [Machine.candidateMissing, h.measuredCodes, hg, missingTotal_missing]

theorem SameTables.refillContexts {u v : State} (h : SameTables u v) (is : List Interjection) (l : Lane) :
    refillContexts u l is = refillContexts v l is := by
  induction is generalizing l with
  | nil => simp only [Machine.refillContexts, refillBase, h.walk, h.stagedOf, h.candidateMissing]
  | cons i is ih => simp only [Machine.refillContexts, h.walk, h.stagedOf, h.candidateMissing, ih]

/-- A refill reads the tables alone (spec 07 R98 to R104). -/
theorem SameTables.refill {u v : State} (h : SameTables u v) (l : Lane) : refill u l = refill v l := by
  simp only [Machine.refill, h.refillContexts]

theorem SameTables.places {u v : State} (h : SameTables u v) {l k : Lane} {n : Nat} (hp : Places u l n k) :
    Places v l n k := by
  induction hp with
  | ends l hl => exact .ends l hl
  | places l r k e n m hl he hr _ ih => exact .places l r k e n m hl he (by rw [← h.refill]; exact hr) ih

/-! ## What a refill leaves of a lane -/

/-- A lane but for what staging and placement move: the slot and its context, the faults and the on-screen list. -/
def Lane.kept (l : Lane) : Lane :=
  { l with state := .idle, slot := none, starved := false, cursor := 0, passEnd := false, interjections := []
           faults := 0, lastFault := none, screen := [], nextNumber := 0 }

theorem recordFaults_kept (l : Lane) (fs : List (Nat × StagingFault)) : (recordFaults l fs).kept = l.kept ∧
    (recordFaults l fs).nextNumber = l.nextNumber := by
  obtain ⟨n, r, h, -⟩ := recordFaults_frame l fs
  rw [h]
  exact ⟨rfl, rfl⟩

theorem refillBase_kept (s : State) (l : Lane) :
    (refillBase s l).1.kept = l.kept ∧ (refillBase s l).1.nextNumber = l.nextNumber := by
  unfold refillBase
  split <;> split
  · exact ⟨rfl, rfl⟩
  · dsimp only; split <;> exact recordFaults_kept l _
  · exact ⟨rfl, rfl⟩
  · dsimp only; split <;> exact recordFaults_kept l _

theorem refillContexts_kept (s : State) (is : List Interjection) (l : Lane) :
    (refillContexts s l is).1.kept = l.kept ∧ (refillContexts s l is).1.nextNumber = l.nextNumber := by
  induction is generalizing l with
  | nil => exact refillBase_kept s { l with interjections := [] }
  | cons i is ih =>
    obtain ⟨hk, hn⟩ := recordFaults_kept l (walk s l (i.items.drop i.cursor)).faults
    simp only [refillContexts]
    split
    · obtain ⟨h1, h2⟩ := ih (recordFaults l (walk s l (i.items.drop i.cursor)).faults)
      exact ⟨h1.trans hk, h2.trans hn⟩
    · split <;> exact ⟨hk, hn⟩

theorem refill_kept (s : State) (l : Lane) :
    (refill s l).1.kept = l.kept ∧ (refill s l).1.nextNumber = l.nextNumber := by
  unfold refill
  split
  · exact ⟨rfl, rfl⟩
  · split
    · exact ⟨rfl, rfl⟩
    · exact refillContexts_kept s _ l

theorem Places.kept {s : State} {l k : Lane} {n : Nat} (h : Places s l n k) : k.kept = l.kept := by
  induction h with
  | ends l hl => rfl
  | places l r k e n m hl he hr _ ih =>
    refine ih.trans ?_
    have := (refill_kept s (placeEntry l e)).1
    rw [show refill s (placeEntry l e) = (r, n) from hr] at this
    exact this

/-! ## Marks -/

/-- A lane with other marks on its list and another clipped counter. -/
def Lane.withMarks (l : Lane) (screen : List Placed) (clipped : Counter) : Lane :=
  { l with screen := screen, clipped := clipped }

theorem walk_withMarks (s : State) (l : Lane) (sc : List Placed) (c : Counter) (ns : List Nat) :
    walk s (l.withMarks sc c) ns = walk s l ns := by
  induction ns with
  | nil => rfl
  | cons n ns ih => rw [walk, ih, walk]; rfl

theorem recordFaults_withMarks (l : Lane) (sc : List Placed) (c : Counter) (fs : List (Nat × StagingFault)) :
    recordFaults (l.withMarks sc c) fs = (recordFaults l fs).withMarks sc c := by
  induction fs generalizing l with
  | nil => rfl
  | cons f fs ih => exact ih (recordFault l f)

theorem refillBase_withMarks (s : State) (l : Lane) (sc : List Placed) (c : Counter) :
    refillBase s (l.withMarks sc c) = ((refillBase s l).1.withMarks sc c, (refillBase s l).2) := by
  have hmode : (l.withMarks sc c).mode = l.mode := rfl
  have hbase : (l.withMarks sc c).base = l.base := rfl
  have hcursor : (l.withMarks sc c).cursor = l.cursor := rfl
  cases hm : l.mode with
  | loop =>
    simp only [refillBase, hmode, hm, hbase, hcursor, walk_withMarks, recordFaults_withMarks]
    split
    · rfl
    · split <;> rfl
  | singlePass =>
    simp only [refillBase, hmode, hm, hbase, hcursor, walk_withMarks, recordFaults_withMarks]
    split
    · rfl
    · split <;> rfl

theorem refillContexts_withMarks (s : State) (sc : List Placed) (c : Counter) (is : List Interjection) (l : Lane) :
    refillContexts s (l.withMarks sc c) is = ((refillContexts s l is).1.withMarks sc c, (refillContexts s l is).2) := by
  induction is generalizing l with
  | nil => exact refillBase_withMarks s { l with interjections := [] } sc c
  | cons i is ih =>
    simp only [refillContexts, walk_withMarks, recordFaults_withMarks, ih]
    split
    · rfl
    · split <;> rfl

/-- A refill neither reads nor moves the marks (spec 07 R98). -/
theorem refill_withMarks (s : State) (l : Lane) (sc : List Placed) (c : Counter) :
    refill s (l.withMarks sc c) = ((refill s l).1.withMarks sc c, (refill s l).2) := by
  have hstate : (l.withMarks sc c).state = l.state := rfl
  have hslot : (l.withMarks sc c).slot = l.slot := rfl
  have hmode : (l.withMarks sc c).mode = l.mode := rfl
  have hend : (l.withMarks sc c).passEnd = l.passEnd := rfl
  have hcontexts : (l.withMarks sc c).interjections = l.interjections := rfl
  simp only [refill, hstate, hslot, hmode, hend, hcontexts, refillContexts_withMarks]
  split
  · rfl
  · split <;> rfl

theorem refill_unmarked (s : State) (l : Lane) : refill s l.unmarked = ((refill s l).1.unmarked, (refill s l).2) := by
  have h : l.unmarked = l.withMarks (l.screen.map unmarked) 0 := rfl
  rw [h, refill_withMarks, ← refill_screen s l]
  rfl

/-- Two lanes that differ in marks and the clipped counter alone have attempts of the same outcome. -/
theorem refill_of_unmarked (s : State) {l k : Lane} (h : l.unmarked = k.unmarked) :
    (refill s l).1.unmarked = (refill s k).1.unmarked ∧ (refill s l).2 = (refill s k).2 := by
  have := refill_unmarked s l
  rw [h, refill_unmarked] at this
  obtain ⟨h1, h2⟩ := Prod.mk.inj this
  exact ⟨h1.symm, h2.symm⟩

theorem unmarked_unmarked (l : Lane) : l.unmarked.unmarked = l.unmarked := by
  simp only [Lane.unmarked, List.map_map]
  rfl

/-- The tail of a list that starts at an edge, with a gap after each entry (spec 07 R112). -/
def tailFrom (edge : Int) (gap : Nat) (ps : List Placed) : Int :=
  match ps.getLast? with
  | none => edge
  | some p => p.x + ((p.entry.width : Int) + (gap : Int)) * 65536

theorem tail_eq (l : Lane) : tail l = tailFrom (rightEdge l) l.config.gap l.screen := by
  unfold tail tailFrom
  cases l.screen.getLast? <;> rfl

theorem tailFrom_of_unmarked (edge : Int) (gap : Nat) {ps qs : List Placed}
    (h : ps.map unmarked = qs.map unmarked) : tailFrom edge gap ps = tailFrom edge gap qs := by
  have hlast : ps.getLast?.map unmarked = qs.getLast?.map unmarked := by
    rw [← List.getLast?_map, h, List.getLast?_map]
  unfold tailFrom
  cases hp : ps.getLast? with
  | none =>
    rw [hp] at hlast
    rw [Option.map_eq_none_iff.1 hlast.symm]
  | some p =>
    rw [hp] at hlast
    obtain ⟨q, hq, hpq⟩ := Option.map_eq_some_iff.1 hlast.symm
    have hx : q.x = p.x := (congrArg Placed.x hpq :)
    have hw : q.entry.width = p.entry.width := (congrArg (fun z => z.entry.width) hpq :)
    rw [hq]
    simp only [hx, hw]

theorem tail_unmarked (l : Lane) : tail l.unmarked = tail l := by
  rw [tail_eq, tail_eq]
  exact tailFrom_of_unmarked _ _ (congrArg Lane.screen (unmarked_unmarked l))

theorem tail_of_unmarked {l k : Lane} (h : l.unmarked = k.unmarked) : tail l = tail k := by
  rw [← tail_unmarked, h, tail_unmarked]

theorem length_of_unmarked {l k : Lane} (h : l.unmarked = k.unmarked) : l.screen.length = k.screen.length := by
  have := congrArg (fun z => z.screen.length) h
  simpa [Lane.unmarked] using this

theorem placeEntry_of_unmarked {l k : Lane} (e : Staged) (h : l.unmarked = k.unmarked) :
    (placeEntry l e).unmarked = (placeEntry k e).unmarked := by
  have ht := tail_of_unmarked h
  have hn : l.nextNumber = k.nextNumber := (congrArg Lane.nextNumber h :)
  have hs : l.screen.map unmarked = k.screen.map unmarked := (congrArg Lane.screen h :)
  have hform : ∀ z : Lane, (placeEntry z e).unmarked = { z.unmarked with
      slot := none, nextNumber := z.nextNumber + 1
      screen := z.screen.map unmarked ++ [unmarked { entry := e, x := tail z, number := z.nextNumber }] } := fun z => by
    simp [Lane.unmarked, placeEntry]
  rw [hform, hform, h, ht, hn, hs]

theorem placeLoop_of_unmarked (s : State) (fuel : Nat) {l k : Lane} (h : l.unmarked = k.unmarked) :
    (placeLoop s fuel l).1.unmarked = (placeLoop s fuel k).1.unmarked ∧
      (placeLoop s fuel l).2 = (placeLoop s fuel k).2 := by
  induction fuel generalizing l k with
  | zero => exact ⟨h, rfl⟩
  | succ fuel ih =>
    have hslot : k.slot = l.slot := (congrArg Lane.slot h.symm :)
    have hedge : rightEdge k = rightEdge l := (congrArg rightEdge h.symm :)
    have hwhere : (tail k ≤ rightEdge k ∧ k.screen.length < 16) ↔ (tail l ≤ rightEdge l ∧ l.screen.length < 16) := by
      rw [tail_of_unmarked h, length_of_unmarked h, hedge]
    cases he : l.slot with
    | none => simp only [placeLoop, hslot, he]; exact ⟨h, trivial⟩
    | some e =>
      by_cases hp : tail l ≤ rightEdge l ∧ l.screen.length < 16
      · obtain ⟨h1, h2⟩ := refill_of_unmarked s (placeEntry_of_unmarked e h)
        obtain ⟨h3, h4⟩ := ih h1
        simp only [placeLoop, hslot, he, if_pos hp, if_pos (hwhere.2 hp)]
        exact ⟨h3, by rw [h2, h4]⟩
      · simp only [placeLoop, hslot, he, if_neg hp, if_neg fun hk => hp (hwhere.1 hk)]
        exact ⟨h, trivial⟩

theorem countCrowded_unmarked (l : Lane) : countCrowded l.unmarked = (countCrowded l).unmarked := by
  have hwhere : (l.unmarked.slot.isSome ∧ tail l.unmarked ≤ rightEdge l.unmarked ∧ 16 ≤ l.unmarked.screen.length) ↔
      (l.slot.isSome ∧ tail l ≤ rightEdge l ∧ 16 ≤ l.screen.length) := by
    rw [tail_unmarked, length_of_unmarked (unmarked_unmarked l)]; rfl
  unfold countCrowded
  by_cases h : l.slot.isSome ∧ tail l ≤ rightEdge l ∧ 16 ≤ l.screen.length
  · rw [if_pos h, if_pos (hwhere.2 h)]; rfl
  · rw [if_neg h, if_neg fun hk => h (hwhere.1 hk)]

theorem drainStage_unmarked (l : Lane) : drainStage l.unmarked = (drainStage l).unmarked := by
  have hempty : l.unmarked.screen.isEmpty = l.screen.isEmpty := List.isEmpty_map
  unfold drainStage
  rw [hempty]
  by_cases h : l.state = .draining ∧ l.screen.isEmpty = true
  · rw [if_pos h]; exact if_pos h
  · rw [if_neg h]; exact if_neg h

theorem placementStage_of_unmarked (s : State) {l k : Lane} (h : l.unmarked = k.unmarked) :
    (placementStage s l).1.unmarked = (placementStage s k).1.unmarked ∧
      (placementStage s l).2 = (placementStage s k).2 := by
  have hstate : k.state = l.state := (congrArg Lane.state h.symm :)
  unfold placementStage
  rw [hstate]
  split
  · exact ⟨h, rfl⟩
  · obtain ⟨h1, h2⟩ := refill_of_unmarked s h
    obtain ⟨h3, h4⟩ := placeLoop_of_unmarked s 16 h1
    have hn : (refill s l).2 + (placeLoop s 16 (refill s l).1).2 =
        (refill s k).2 + (placeLoop s 16 (refill s k).1).2 := by rw [h2, h4]
    refine ⟨?_, hn⟩
    show (countCrowded _).unmarked = (countCrowded _).unmarked
    rw [← countCrowded_unmarked, h3, countCrowded_unmarked]

theorem stagesBeforePlacement_unmarked (f : Format) (l : Lane) :
    stagesBeforePlacement f l.unmarked = (stagesBeforePlacement f l).unmarked := by
  have hmoved : ∀ z : Lane, motionStage z.unmarked = (motionStage z).unmarked := fun z => by
    have hstate : z.unmarked.state = z.state := rfl
    unfold motionStage
    rw [hstate]
    split
    · rfl
    · simp only [Lane.unmarked, List.map_map]; rfl
  have hremoved : ∀ z : Lane, removalStage z.unmarked = (removalStage z).unmarked := fun z => by
    simp only [removalStage, Lane.unmarked, List.dropWhile_map]
    rfl
  show removalStage (motionStage (incrementStage f (rampStage (configStage f l))).unmarked) = _
  rw [hmoved, hremoved]
  rfl

/-- The stages of a lane neither read nor move the marks (spec 07 R114, spec 10 R160). -/
theorem laneStages_of_unmarked (s : State) (held : Bool) {l k : Lane} (h : l.unmarked = k.unmarked) :
    (laneStages s held l).1.unmarked = (laneStages s held k).1.unmarked ∧
      (laneStages s held l).2 = (laneStages s held k).2 := by
  cases held with
  | true =>
    rw [laneStages_held, laneStages_held]
    exact ⟨congrArg (fun z => incrementStage s.timing.format (configStage s.timing.format z)) h, rfl⟩
  | false =>
    rw [laneStages_unheld, laneStages_unheld]
    have hstart : (stagesBeforePlacement s.timing.format l).unmarked =
        (stagesBeforePlacement s.timing.format k).unmarked := by
      rw [← stagesBeforePlacement_unmarked, h, stagesBeforePlacement_unmarked]
    obtain ⟨h1, h2⟩ := placementStage_of_unmarked s hstart
    refine ⟨?_, h2⟩
    show (drainStage _).unmarked = (drainStage _).unmarked
    rw [← drainStage_unmarked, h1, drainStage_unmarked]

/-! ## What placement makes -/

/-- Where an entry stands that placement has put at place `i` of a list with `n` entries before it: at the tail as it then
stood, inside the viewport, with the next entry number (spec 07 R112, R117). -/
def PlacedAt (edge : Int) (gap number n : Nat) (ps : List Placed) : Prop :=
  ∀ i p, n ≤ i → ps[i]? = some p →
    p.x = tailFrom edge gap (ps.take i) ∧ p.x ≤ edge ∧ i < 16 ∧ p.number = number + (i - n)

theorem Places.placedAt {s : State} {l k : Lane} {n : Nat} (h : Places s l n k) :
    (∃ new, k.screen = l.screen ++ new) ∧
      PlacedAt (rightEdge l) l.config.gap l.nextNumber l.screen.length k.screen := by
  induction h with
  | ends l hl =>
    refine ⟨⟨[], (List.append_nil _).symm⟩, fun i p hi hp => ?_⟩
    have := (List.getElem?_eq_some_iff.1 hp).1
    omega
  | places l r k e n m hl he hr _ ih =>
    obtain ⟨⟨new, hnew⟩, hat⟩ := ih
    have hr' : r = (refill s (placeEntry l e)).1 := (congrArg Prod.fst hr).symm
    obtain ⟨hkept, hnext⟩ := refill_kept s (placeEntry l e)
    rw [← hr'] at hkept hnext
    have hscreen : r.screen = l.screen ++ [{ entry := e, x := laneTail l, number := l.nextNumber }] := by
      rw [hr', refill_screen]; rfl
    have hedge : rightEdge r = rightEdge l := (congrArg (fun z => rightEdge z) hkept :)
    have hgap : r.config.gap = l.config.gap := (congrArg (fun z => z.config.gap) hkept :)
    have hk : k.screen = l.screen ++ { entry := e, x := laneTail l, number := l.nextNumber } :: new := by
      rw [hnew, hscreen, List.append_assoc]; rfl
    refine ⟨⟨_, hk⟩, fun i p hi hp => ?_⟩
    by_cases hlast : i = l.screen.length
    · subst hlast
      obtain ⟨-, hin, hlen⟩ := hl
      rw [hk, List.getElem?_append_right (Nat.le_refl _), Nat.sub_self] at hp
      cases hp
      refine ⟨?_, hin, hlen, by simp⟩
      rw [hk, List.take_left']
      · exact tail_eq l
      · rfl
    · have hlenr : r.screen.length = l.screen.length + 1 := by rw [hscreen]; simp
      obtain ⟨h1, h2, h3, h4⟩ := hat i p (by omega) hp
      rw [hedge, hgap] at h1
      rw [hedge] at h2
      have hnum : r.nextNumber = l.nextNumber + 1 := hnext
      exact ⟨h1, h2, h3, by omega⟩

/-- The entry in the slot is placed first (spec 07 R112). -/
theorem Places.first {s : State} {l k : Lane} {n : Nat} (h : Places s l n k) (hp : Placeable l) (e : Staged)
    (he : l.slot = some e) :
    k.screen[l.screen.length]? = some { entry := e, x := laneTail l, number := l.nextNumber } := by
  cases h with
  | ends _ hl => exact absurd hp hl
  | places _ r _ e' n m _ he' hr hk =>
    have hee : e' = e := Option.some.inj (he'.symm.trans he)
    subst hee
    obtain ⟨new, hnew⟩ := hk.placedAt.1
    have hr' : r = (refill s (placeEntry l e')).1 := (congrArg Prod.fst hr).symm
    have hscreen : r.screen = l.screen ++ [{ entry := e', x := laneTail l, number := l.nextNumber }] := by
      rw [hr', refill_screen]; rfl
    rw [hnew, hscreen, List.append_assoc, List.getElem?_append_right (Nat.le_refl _), Nat.sub_self]
    rfl

theorem Places.done {s : State} {l k : Lane} {n : Nat} (h : Places s l n k) : ¬Placeable k := by
  induction h with
  | ends l hl => exact hl
  | places l r k e n m hl he hr _ ih => exact ih

/-- Stage 6 of a RUNNING lane: an attempt at a refill, and placement and refill in turn (spec 07 R98, R112). -/
theorem placementStage_running (s : State) (l : Lane) (h : l.state = .running) : ∃ a n more z,
    refill s l = (a, n) ∧ Places s a more z ∧ placementStage s l = (countCrowded z, n + more) := by
  rcases hr : refill s l with ⟨a, n⟩
  refine ⟨a, n, (placeLoop s 16 a).2, (placeLoop s 16 a).1, rfl, placeLoop_places s 16 a (by omega), ?_⟩
  have hrunning : ¬l.state ≠ .running := fun hn => hn h
  simp only [placementStage, if_neg hrunning, hr]

theorem placementStage_idle (s : State) (l : Lane) (h : l.state ≠ .running) : placementStage s l = (l, 0) := if_pos h

end Sys2Proof.Machine
end

section
/-! PROOFS. A lane at an output frame start: the part as it stands at the lane's act, and that nothing but the drawing of a line
touches the lane otherwise (spec 07 R114, R115, spec 10 R160). -/

namespace Sys2Proof.Machine

open Sys2Proof

/-! ## What the acts leave of a lane -/

theorem judgeEntry_unmarked (g : GlyphStore) (l : Lane) (e : SnapEntry) : (judgeEntry g l e).1.unmarked = l.unmarked := by
  have hmark : ∀ n, (fun p : Placed => unmarked
      (if p.number = n then { p with entry := { p.entry with clipped := true } } else p)) = unmarked := fun n => by
    funext p
    split <;> rfl
  unfold judgeEntry
  split
  · simp only [markOnScreen, Lane.unmarked, List.map_map, Function.comp_def, hmark]
  · rfl

theorem judgeEntries_unmarked (g : GlyphStore) (es : List SnapEntry) (l : Lane) :
    (judgeEntries g l es).1.unmarked = l.unmarked := by
  induction es generalizing l with
  | nil => rfl
  | cons e es ih => exact (ih _).trans (judgeEntry_unmarked g l e)

/-- The counting of clipping touches marks and the clipped counter (spec 10 R160). -/
theorem countClipping_unmarked (line : Nat) (s : State) (m : Nat) :
    (laneOf (countClipping line s) m).unmarked = (laneOf s m).unmarked := by
  cases h : s.renderer.frameSet with
  | none => rw [countClipping_none line s h]
  | some q =>
    rw [countClipping_some line s q h]
    show ((judgeLanes s.glyphs line s.lanes q).1.get m).unmarked = (s.lanes.get m).unmarked
    rw [(judgeLanes_get s.glyphs line s.lanes q m).1]
    unfold judgeLane
    split
    · exact judgeEntries_unmarked _ _ _
    · rfl

theorem makeAct_lane (changed : Bool) (a : FrameAct) (r : FrameRun) (m : Fin 4) (h : a ≠ .lane m) :
    (laneOf (makeAct changed a r).state m).unmarked = (laneOf r.state m).unmarked ∧
      ((∀ p, a ≠ .line p) → laneOf (makeAct changed a r).state m = laneOf r.state m) := by
  cases a with
  | lane n =>
    have hn : m ≠ n := fun he => h (he ▸ rfl)
    have hsame : laneOf (laneAct n r.state) m = laneOf r.state m := laneOf_laneAct_other n m r.state hn
    exact ⟨congrArg Lane.unmarked hsame, fun _ => hsame⟩
  | line p =>
    refine ⟨?_, fun hno => absurd rfl (hno p)⟩
    show (laneOf (overtakeLine r.ending p r.state) m).unmarked = _
    rcases overtakeLine_cases r.ending p r.state with ho | ⟨fr, _, _, ho⟩
    · rw [ho]
    · rw [ho]; exact countClipping_unmarked _ r.state m
  | guard =>
    obtain ⟨g, n, k, hg⟩ := guardEvaluate_touches r.state
    simp only [makeAct, hg]
    exact ⟨rfl, fun _ => rfl⟩
  | _ => exact ⟨rfl, fun _ => rfl⟩

theorem runActs_lane (s : State) (as : List FrameAct) (r : FrameRun) (m : Fin 4) (h : .lane m ∉ as) :
    (laneOf (runActs s as r).state m).unmarked = (laneOf r.state m).unmarked ∧
      ((∀ p, .line p ∉ as) → laneOf (runActs s as r).state m = laneOf r.state m) := by
  refine ⟨?_, fun hno => ?_⟩
  · exact foldl_actStep_keeps (fun r => (laneOf r.state m).unmarked) _ as
      (fun a ha r => (makeAct_lane _ a r m fun he => h (he ▸ ha)).1) r
  · exact foldl_actStep_keeps (fun r => laneOf r.state m) _ as
      (fun a ha r => (makeAct_lane _ a r m fun he => h (he ▸ ha)).2 fun p he => hno p (he ▸ ha)) r

/-! ## The moment of an act -/

/-- The acts made before one of them. -/
def actsBefore (order : List FrameAct) (a : FrameAct) : List FrameAct := (actsMade order).takeWhile (· != a)

theorem actsBefore_eq {order A B : List FrameAct} {a : FrameAct} (h : actsMade order = A ++ a :: B) :
    actsBefore order a = A := by
  obtain ⟨-, -, ha, -⟩ := nodup_split (h ▸ actsMade_nodup order)
  have hA : ∀ b ∈ A, (b != a) = true := fun b hb => bne_iff_ne.2 fun he => ha (he ▸ hb)
  rw [actsBefore, h, List.takeWhile_append_of_pos hA, List.takeWhile_cons_of_neg (by simp), List.append_nil]

/-- The part as it stands at an act of the output frame start. -/
def momentOf (order : List FrameAct) (s : State) (a : FrameAct) : State := (runOf s (actsBefore order a)).state

/-- Before its evaluation the guard unit is as it was, and after it as it will be. -/
theorem runOf_guard (order A B : List FrameAct) (a : FrameAct) (s : State) (h : actsMade order = A ++ a :: B) :
    (runOf s A).state.guard = s.guard ∨ (runOf s A).state.guard = (frameStart order s).guard := by
  by_cases hA : .guard ∈ A
  · have hnd := actsMade_nodup order
    rw [h] at hnd
    have hrest : .guard ∉ a :: B := fun hm => (List.nodup_append.1 hnd).2.2 _ hA _ hm rfl
    refine .inr ?_
    have hend : runOf s (actsMade order) = runActs s (a :: B) (runOf s A) := by rw [h]; simp [List.foldl_append]
    rw [frameStart_run, hend]
    exact (runActs_guard s (a :: B) _ hrest).symm
  · exact .inl (runActs_guard s A _ hA)

/-- How many codes lane `m` finds missing at the frame start (spec 04 R56). -/
def missedBy (order : List FrameAct) (s : State) (m : Fin 4) : Nat :=
  (laneStages (momentOf order s (.lane m)) (isGuarded (momentOf order s (.lane m)))
    (laneOf (momentOf order s (.lane m)) m)).2

/-- The part at the act of lane `m`, and the lane after the frame start: its stages, and marks where a line is in drawing. -/
structure LaneMoment (order : List FrameAct) (s : State) (m : Fin 4) (u : State) : Prop where
  guard : u.guard = s.guard ∨ u.guard = (frameStart order s).guard
  quote : u.quote = s.quote ∨ u.quote = (frameStart order s).quote
  format : u.timing.format = (frameStart order s).timing.format
  tables : SameTables u { s with quote := u.quote }
  marks : (laneOf (frameStart order s) m).unmarked = (laneStages u (isGuarded u) (laneOf s m)).1.unmarked
  exact : drawsNoLine order → laneOf (frameStart order s) m = (laneStages u (isGuarded u) (laneOf s m)).1
  missed : missedBy order s m = (laneStages u (isGuarded u) (laneOf s m)).2

theorem runOf_tables (s : State) (as : List FrameAct) :
    SameTables (runOf s as).state { s with quote := (runOf s as).state.quote } := by
  obtain ⟨g, n, k, q, ls, fs, ll, h⟩ := runActs_frame s as (runBegin s)
  refine ⟨?_, ?_, ?_, rfl, n, ?_⟩ <;> rw [h] <;> rfl

theorem not_mem_of_drawsNoLine {order A B : List FrameAct} (h : actsMade order = A ++ B) (hno : drawsNoLine order) :
    (∀ p, .line p ∉ A) ∧ ∀ p, .line p ∉ B :=
  ⟨fun p hp => hno p (line_mem_order order p (h ▸ List.mem_append_left _ hp)),
    fun p hp => hno p (line_mem_order order p (h ▸ List.mem_append_right _ hp))⟩

theorem laneMoment (order : List FrameAct) (s : State) (m : Fin 4) :
    LaneMoment order s m (momentOf order s (.lane m)) := by
  obtain ⟨A, B, h, hA, hB⟩ := actsMade_split order _ (lane_mem_actsMade order m)
  have hu : momentOf order s (.lane m) = (runOf s A).state := by rw [momentOf, actsBefore_eq h]
  have hbefore := runActs_lane s A (runBegin s) m hA
  have hafter := runActs_lane s B (actStep (formatChanged s.timing) (runOf s A) (.lane m)) m hB
  have hact : laneOf (actStep (formatChanged s.timing) (runOf s A) (.lane m)).state m =
      (laneStages (runOf s A).state (isGuarded (runOf s A).state) (laneOf (runOf s A).state m)).1 :=
    laneOf_laneAct_same m (runOf s A).state
  have hend : laneOf (frameStart order s) m =
      laneOf (runActs s B (actStep (formatChanged s.timing) (runOf s A) (.lane m))).state m := by
    rw [frameStart_run, h, runOf_append]; rfl
  have hmarks : (laneOf (runOf s A).state m).unmarked = (laneOf s m).unmarked := hbefore.1
  obtain ⟨hstages, hmissed⟩ := laneStages_of_unmarked (runOf s A).state (isGuarded (runOf s A).state) hmarks
  refine ⟨?_, ?_, ?_, ?_, ?_, fun hno => ?_, ?_⟩
  · rw [hu]; exact runOf_guard order A B _ s h
  · rw [hu]; exact runOf_quote order A B _ s h
  · rw [hu, runActs_timing, frameStart_timing]; rfl
  · rw [hu]; exact runOf_tables s A
  · rw [hu, hend, hafter.1, hact, hstages]
  · obtain ⟨hnoA, hnoB⟩ := not_mem_of_drawsNoLine h hno
    have hlane : laneOf (runOf s A).state m = laneOf s m := hbefore.2 hnoA
    rw [hu, hend, hafter.2 fun p hp => hnoB p (List.mem_cons_of_mem _ hp), hact, hlane]
  · rw [missedBy, hu, hmissed]

theorem eq_frameStart_of_exec {order : List FrameAct} {s t : State} (hpin : s.pins.resetLow = false)
    (h : exec (.outputFrameStart order) s = .next t) : t = frameStart order s := by
  rw [exec_outputFrameStart order s hpin] at h
  injection h with he
  exact he.symm

/-- Settles O11: a held lane makes stages 1 and 3, and its marks are the only thing else that may move. -/
theorem heldLanesStand : Obligations.HeldLanesStand := by
  intro order s t m hpin hs hexec ht hm
  obtain rfl := eq_frameStart_of_exec hpin hexec
  have hl := laneMoment order s ⟨m, hm⟩
  have hheld : isGuarded (momentOf order s (.lane ⟨m, hm⟩)) = true := by
    rcases hl.guard with hg | hg
    · simpa [isGuarded, hg] using hs
    · simpa [isGuarded, hg] using ht
  have hstages := laneStages_held (momentOf order s (.lane ⟨m, hm⟩)) (laneOf s m)
  rw [hl.format] at hstages
  intro l f c left k
  have hk : (laneStages (momentOf order s (.lane ⟨m, hm⟩)) true l).1 = k := congrArg Prod.fst hstages
  rw [← hk]
  have hmarks := hl.marks
  have hexact := hl.exact
  rw [hheld] at hmarks hexact
  exact ⟨hmarks, hexact⟩

end Sys2Proof.Machine
end

section
/-! PROOFS. The lanes that are not held at an output frame start (spec 07 R106, R110 to R114): what stages 1 to 7 make of a lane,
and the codes that the four lanes find missing together. -/

namespace Sys2Proof.Machine

open Sys2Proof

/-! ## What the stages after the removal leave -/

/-- A lane's configuration, geometry, speed, base list and owner, which the stages after the removal leave. -/
def Lane.settled (l : Lane) : Lane := { l.kept with crowded := 0, drained := 0 }

theorem settled_unmarked {l k : Lane} (h : l.settled = k.settled) : l.unmarked.settled = k.unmarked.settled :=
  (congrArg (fun z : Lane => { z with clipped := 0 }) h :)

theorem countCrowded_leaves (l : Lane) : (countCrowded l).settled = l.settled ∧ (countCrowded l).screen = l.screen ∧
    (countCrowded l).slot = l.slot ∧ (countCrowded l).state = l.state ∧ (countCrowded l).crowded = l.crowded +
      (if l.slot.isSome = true ∧ tail l ≤ rightEdge l ∧ 16 ≤ l.screen.length then 1 else 0) := by
  unfold countCrowded
  split
  · exact ⟨rfl, rfl, rfl, rfl, rfl⟩
  · exact ⟨rfl, rfl, rfl, rfl, (BitVec.add_zero _).symm⟩

theorem drainStage_leaves (l : Lane) : (drainStage l).settled = l.settled ∧ (drainStage l).screen = l.screen ∧
    (drainStage l).slot = l.slot ∧ (drainStage l).crowded = l.crowded := by
  unfold drainStage
  split <;> exact ⟨rfl, rfl, rfl, rfl⟩

theorem drainStage_eq (l : Lane) : drainStage l = if l.state = .draining ∧ l.screen = [] then
    { l with state := .idle, cursor := 0, drained := l.drained + 1 } else l := by
  simp only [drainStage, List.isEmpty_iff]

/-- Stages 1 to 3 of a lane that is not held. -/
def pacedLane (f : Format) (l : Lane) : Lane := incrementStage f (rampStage (configStage f l))

/-- The entries that stand after the motion and the removal (spec 07 R110, R111). -/
def remaining (increment : Nat) (ps : List Placed) : List Placed :=
  (ps.map fun p => { p with x := p.x - (increment : Int) }).dropWhile hasLeft

theorem stagesBeforePlacement_moved (f : Format) (l : Lane) (h : l.state ≠ .idle ∨ l.screen = []) :
    stagesBeforePlacement f l =
      { pacedLane f l with screen := remaining (pacedLane f l).increment l.screen } := by
  show removalStage (motionStage (pacedLane f l)) = _
  have hstate : (pacedLane f l).state = l.state := rfl
  have hscreen : (pacedLane f l).screen = l.screen := rfl
  by_cases hi : l.state = .idle
  · have hempty := h.resolve_left fun hn => hn hi
    simp only [motionStage, hstate, hi, if_true, removalStage, hscreen, hempty, remaining, List.map_nil,
      List.dropWhile_nil]
  · simp only [motionStage, hstate, hi, if_false, removalStage, hscreen]
    rfl

theorem stagesBeforePlacement_leaves (f : Format) (l : Lane) :
    (stagesBeforePlacement f l).settled = (pacedLane f l).settled ∧
      (stagesBeforePlacement f l).state = l.state ∧ (stagesBeforePlacement f l).crowded = l.crowded := by
  have hmoved : ∀ z : Lane, (removalStage (motionStage z)).settled = z.settled ∧
      (removalStage (motionStage z)).state = z.state ∧ (removalStage (motionStage z)).crowded = z.crowded := fun z => by
    unfold motionStage
    split <;> exact ⟨rfl, rfl, rfl⟩
  exact hmoved (pacedLane f l)

theorem countCrowded_eq (l : Lane) : countCrowded l = { l with crowded := l.crowded +
    (if l.slot.isSome = true ∧ tail l ≤ rightEdge l ∧ 16 ≤ l.screen.length then 1 else 0) } := by
  unfold countCrowded
  split
  · rfl
  · exact congrArg (fun n => { l with crowded := n }) (BitVec.add_zero l.crowded).symm

/-! ## A lane that is not held, stage by stage -/

/-- Stages 6 and 7 of a RUNNING lane (spec 07 R98, R112, R113, R96). -/
structure Ran (s : State) (start z w : Lane) (n : Nat) : Prop where
  refills : ∃ a k more, refill s start = (a, k) ∧ Places s a more z ∧ n = k + more
  ends : w = drainStage (countCrowded z)
  kept : z.kept = start.kept
  appends : ∃ new, z.screen = start.screen ++ new
  placed : PlacedAt (rightEdge start) start.config.gap start.nextNumber start.screen.length z.screen
  first : ∀ e, start.slot = some e → tail start ≤ rightEdge start → start.screen.length < 16 →
    z.screen[start.screen.length]? = some { entry := e, x := tail start, number := start.nextNumber }
  done : z.slot.isSome = true → rightEdge z < tail z ∨ 16 ≤ z.screen.length

theorem laneStages_running (s : State) (l : Lane) (h : l.state = .running) :
    ∃ z, Ran s (stagesBeforePlacement s.timing.format l) z (laneStages s false l).1 (laneStages s false l).2 := by
  have hrun : (stagesBeforePlacement s.timing.format l).state = .running :=
    (stagesBeforePlacement_leaves s.timing.format l).2.1.trans h
  rw [laneStages_unheld]
  generalize stagesBeforePlacement s.timing.format l = start at hrun
  obtain ⟨a, n, more, z, hr, hp, hstage⟩ := placementStage_running s start hrun
  obtain ⟨hkept, hnext⟩ := refill_kept s start
  have hscreen := refill_screen s start
  rw [hr] at hkept hnext hscreen
  simp only at hkept hnext hscreen
  have hedge : rightEdge a = rightEdge start := (congrArg rightEdge hkept :)
  have hgap : a.config.gap = start.config.gap := (congrArg (fun z => z.config.gap) hkept :)
  refine ⟨z, ⟨a, n, more, hr, hp, by rw [hstage]⟩, by rw [hstage], hp.kept.trans hkept, ?_, ?_, fun e he ht hl => ?_,
    fun hs => ?_⟩
  · rw [← hscreen]; exact hp.placedAt.1
  · rw [← hscreen, ← hedge, ← hgap, ← hnext]; exact hp.placedAt.2
  · have ha : a = start := by
      rw [refill_idle s start (.inr (by rw [he]; rfl))] at hr
      exact (congrArg Prod.fst hr).symm
    subst ha
    exact hp.first ⟨by rw [he]; rfl, ht, hl⟩ e he
  · have hdone := hp.done
    refine Classical.byContradiction fun hno => hdone ⟨hs, ?_, ?_⟩
    · exact Int.not_lt.1 fun hlt => hno (.inl hlt)
    · exact Nat.not_le.1 fun hle => hno (.inr hle)

theorem laneStages_resting (s : State) (l : Lane) (h : l.state ≠ .running) :
    laneStages s false l = (drainStage (stagesBeforePlacement s.timing.format l), 0) := by
  rw [laneStages_unheld, placementStage_idle s _ (by rwa [(stagesBeforePlacement_leaves s.timing.format l).2.1])]

theorem laneStages_settled (s : State) (l : Lane) :
    (laneStages s false l).1.settled = (pacedLane s.timing.format l).settled := by
  have hstart := (stagesBeforePlacement_leaves s.timing.format l).1
  by_cases h : l.state = .running
  · obtain ⟨z, hz⟩ := laneStages_running s l h
    rw [hz.ends, (drainStage_leaves _).1, (countCrowded_leaves z).1, ← hstart]
    show { z.kept with crowded := 0, drained := 0 } = _
    rw [hz.kept]
    rfl
  · rw [laneStages_resting s l h, (drainStage_leaves _).1, hstart]

/-! ## Lists that differ in marks -/

theorem getElem?_of_unmarked {ps qs : List Placed} (h : ps.map unmarked = qs.map unmarked) {i : Nat} {p : Placed}
    (hp : ps[i]? = some p) : ∃ q, qs[i]? = some q ∧ unmarked q = unmarked p := by
  have hi : (qs.map unmarked)[i]? = some (unmarked p) := by rw [← h, List.getElem?_map, hp]; rfl
  rw [List.getElem?_map] at hi
  exact Option.map_eq_some_iff.1 hi

theorem PlacedAt.of_unmarked {edge : Int} {gap number n : Nat} {ps qs : List Placed}
    (h : PlacedAt edge gap number n ps) (he : qs.map unmarked = ps.map unmarked) : PlacedAt edge gap number n qs := by
  intro i q hi hq
  obtain ⟨p, hp, hpq⟩ := getElem?_of_unmarked he hq
  obtain ⟨h1, h2, h3, h4⟩ := h i p hi hp
  have hx : p.x = q.x := (congrArg Placed.x hpq :)
  have hn : p.number = q.number := (congrArg Placed.number hpq :)
  have htake : (qs.take i).map unmarked = (ps.take i).map unmarked := by rw [List.map_take, he, List.map_take]
  rw [tailFrom_of_unmarked edge gap htake, ← hx, ← hn]
  exact ⟨h1, h2, h3, h4⟩

/-- A lane after the frame start from what its stages have made: a line may have marked it (spec 10 R160). -/
structure AfterStages (lineless : Prop) (w k : Lane) : Prop where
  marks : k.unmarked = w.unmarked
  exact : lineless → k = w

/-- The on-screen list of a RUNNING lane after the frame start (spec 07 R112, R113): `start` is the lane after the removal. -/
theorem Ran.screen {s : State} {start z w k : Lane} {n : Nat} {lineless : Prop} (h : Ran s start z w n)
    (hk : AfterStages lineless w k) :
    let edge := rightEdge start
    let gap := start.config.gap
    (k.screen.take start.screen.length).map unmarked = start.screen.map unmarked ∧
    (lineless → k.screen.take start.screen.length = start.screen) ∧
    PlacedAt edge gap start.nextNumber start.screen.length k.screen ∧
    (∀ e, start.slot = some e → tailFrom edge gap start.screen ≤ edge → start.screen.length < 16 →
      ∃ p, k.screen[start.screen.length]? = some p ∧ unmarked p =
        unmarked { entry := e, x := tailFrom edge gap start.screen, number := start.nextNumber }) ∧
    (k.slot.isSome = true → edge < tailFrom edge gap k.screen ∨ 16 ≤ k.screen.length) ∧
    k.crowded = start.crowded +
      (if k.slot.isSome = true ∧ tailFrom edge gap k.screen ≤ edge ∧ 16 ≤ k.screen.length then 1 else 0) := by
  intro edge gap
  obtain ⟨-, hscreenC, hslotC, -, hcrowdedC⟩ := countCrowded_leaves z
  obtain ⟨-, hscreenD, hslotD, hcrowdedD⟩ := drainStage_leaves (countCrowded z)
  have hwscreen : w.screen = z.screen := by rw [h.ends, hscreenD, hscreenC]
  have hscreen : k.screen.map unmarked = z.screen.map unmarked :=
    hwscreen ▸ (congrArg Lane.screen hk.marks :)
  have hlen : k.screen.length = z.screen.length := by simpa using congrArg List.length hscreen
  have hslot : k.slot = z.slot := by
    have h1 : k.slot = w.slot := (congrArg Lane.slot hk.marks :)
    rw [h1, h.ends, hslotD, hslotC]
  have hedge : rightEdge z = edge := (congrArg rightEdge h.kept :)
  have hgap : z.config.gap = gap := (congrArg (fun z => z.config.gap) h.kept :)
  have htail : tail z = tailFrom edge gap k.screen := by
    rw [tail_eq, hedge, hgap, tailFrom_of_unmarked edge gap hscreen]
  obtain ⟨new, hnew⟩ := h.appends
  have htake : z.screen.take start.screen.length = start.screen := by rw [hnew, List.take_left']; rfl
  refine ⟨?_, fun hno => ?_, h.placed.of_unmarked hscreen, fun e he ht hl => ?_, fun hs => ?_, ?_⟩
  · rw [List.map_take, hscreen, ← List.map_take, htake]
  · rw [hk.exact hno, hwscreen, htake]
  · rw [← tail_eq] at ht ⊢
    exact getElem?_of_unmarked hscreen.symm (h.first e he ht hl)
  · rw [← htail, ← hedge, hlen]
    exact h.done (hslot ▸ hs)
  · have h1 : k.crowded = w.crowded := (congrArg Lane.crowded hk.marks :)
    have h2 : z.crowded = start.crowded := (congrArg Lane.crowded h.kept :)
    rw [h1, h.ends, hcrowdedD, hcrowdedC, h2, hslot, htail, hedge, hlen]

/-- A DRAINING lane after the frame start (spec 07 R96). -/
theorem AfterStages.draining {lineless : Prop} {start k : Lane} (h : AfterStages lineless (drainStage start) k)
    (hs : start.state = .draining) :
    k.screen.map unmarked = start.screen.map unmarked ∧ (lineless → k.screen = start.screen) ∧
    (start.screen = [] → k.state = .idle ∧ k.cursor = 0 ∧ k.drained = start.drained + 1) ∧
    (start.screen ≠ [] → k.state = .draining ∧ k.drained = start.drained) ∧ k.crowded = start.crowded := by
  obtain ⟨hmarks, hexact⟩ := h
  rw [drainStage_eq] at hmarks hexact
  by_cases hempty : start.screen = []
  · rw [if_pos ⟨hs, hempty⟩] at hmarks hexact
    exact ⟨(congrArg Lane.screen hmarks :), fun hno => (congrArg Lane.screen (hexact hno) :), fun _ =>
      ⟨(congrArg Lane.state hmarks :), (congrArg Lane.cursor hmarks :), (congrArg Lane.drained hmarks :)⟩,
      fun hn => absurd hempty hn, (congrArg Lane.crowded hmarks :)⟩
  · rw [if_neg fun h => hempty h.2] at hmarks hexact
    exact ⟨(congrArg Lane.screen hmarks :), fun hno => (congrArg Lane.screen (hexact hno) :),
      fun he => absurd he hempty, fun _ => ⟨(congrArg Lane.state hmarks :).trans hs,
        (congrArg Lane.drained hmarks :)⟩, (congrArg Lane.crowded hmarks :)⟩

/-! ## The missing codes of the four lanes -/

/-- The codes that an act finds missing: those of a lane's refills. -/
def missedIn (order : List FrameAct) (s : State) : FrameAct → Nat
  | .lane m => missedBy order s m
  | _ => 0

/-- The missing-glyph counter is moved by the lanes, and by the guard unit where it resolves a slate. -/
theorem makeAct_missing (changed : Bool) (a : FrameAct) (r : FrameRun) (hg : a ≠ .guard) (hl : ∀ m, a ≠ .lane m) :
    (makeAct changed a r).state.glyphs.missing = r.state.glyphs.missing := by
  cases a with
  | guard => exact absurd rfl hg
  | lane m => exact absurd rfl (hl m)
  | line p => obtain ⟨ls, q, h⟩ := overtakeLine_frame r.ending p r.state; simp [makeAct, h]
  | _ => rfl

theorem guardEvaluate_missing (s : State)
    (h : (guardEvaluate s).guard.state ≠ .guarded .slate ∨ s.guard.state = .guarded .slate) :
    (guardEvaluate s).glyphs.missing = s.glyphs.missing := by
  have hm := guardEvaluate_moves s
  by_cases he : (guardEvaluate s).guard.active = s.guard.active
  · rw [hm.stays he]
  · obtain ⟨-, -, -, -, -, -, -, -, -, hkeeps⟩ := hm.acts he
    exact (hkeeps h).2

/-- Spec 04 R56: the counter has moved by the codes that the lanes found missing so far. -/
def CountsMissed (order : List FrameAct) (s : State) (as : List FrameAct) : Prop :=
  (runOf s as).state.glyphs.missing = s.glyphs.missing + BitVec.ofNat 32 ((as.map (missedIn order s)).sum)

theorem CountsMissed.step {order : List FrameAct} {s : State}
    (hg : (frameStart order s).guard.state ≠ .guarded .slate ∨ s.guard.state = .guarded .slate) {A B : List FrameAct}
    {a : FrameAct} (h : actsMade order = A ++ a :: B) (hA : CountsMissed order s A) : CountsMissed order s (A ++ [a]) := by
  have hact : runOf s (A ++ [a]) = actStep (formatChanged s.timing) (runOf s A) a := runOf_append s A [] a
  have hsum : ((A ++ [a]).map (missedIn order s)).sum = (A.map (missedIn order s)).sum + missedIn order s a := by simp
  unfold CountsMissed at hA ⊢
  rw [hact, hsum]
  by_cases hguard : a = .guard
  · subst hguard
    obtain ⟨-, -, hnotA, hnotB, -⟩ := nodup_split (h ▸ actsMade_nodup order)
    have hu : (runOf s A).state.guard = s.guard := runActs_guard s A _ hnotA
    have hafter : (frameStart order s).guard = (guardEvaluate (runOf s A).state).guard := by
      rw [frameStart_run, h, runOf_append]
      exact runActs_guard s B _ hnotB
    show (guardEvaluate (runOf s A).state).glyphs.missing = _
    rw [guardEvaluate_missing _ (by rw [hu, ← hafter]; exact hg)]
    exact hA
  · by_cases hlane : ∃ m, a = .lane m
    · obtain ⟨m, rfl⟩ := hlane
      have hmoment : momentOf order s (.lane m) = (runOf s A).state := by rw [momentOf, actsBefore_eq h]
      show (runOf s A).state.glyphs.missing + BitVec.ofNat 32 (laneStages (runOf s A).state
        (isGuarded (runOf s A).state) (laneOf (runOf s A).state m)).2 = _
      rw [hA, BitVec.add_assoc, ← BitVec.ofNat_add]
      rw [missedIn, missedBy, hmoment]
    · have hkeep := makeAct_missing (formatChanged s.timing) a (runOf s A) hguard fun m he => hlane ⟨m, he⟩
      have hzero : missedIn order s a = 0 := by
        cases a with
        | lane m => exact absurd ⟨m, rfl⟩ hlane
        | _ => rfl
      rw [hzero, Nat.add_zero, ← hA]
      exact hkeep

/-- Where no slate is resolved, every act keeps the count. -/
theorem countsMissed_of_made (order : List FrameAct) (s : State)
    (hg : (frameStart order s).guard.state ≠ .guarded .slate ∨ s.guard.state = .guarded .slate) (A C : List FrameAct)
    (h : actsMade order = A ++ C) (hA : CountsMissed order s A) : CountsMissed order s (A ++ C) := by
  induction C generalizing A with
  | nil => rwa [List.append_nil]
  | cons a C ih =>
    have happ : A ++ a :: C = (A ++ [a]) ++ C := by rw [List.append_assoc]; rfl
    rw [happ]
    exact ih (A ++ [a]) (h.trans happ) (hA.step hg h)

/-- A sum over distinct acts is the sum over those of them that count. -/
theorem sum_map_of_support (f : FrameAct → Nat) (xs as : List FrameAct) (hxs : xs.Nodup) (has : as.Nodup)
    (hsub : ∀ a ∈ xs, a ∈ as) (hzero : ∀ a ∈ as, a ∉ xs → f a = 0) : (as.map f).sum = (xs.map f).sum := by
  induction xs generalizing as with
  | nil =>
    clear has hsub hxs
    induction as with
    | nil => rfl
    | cons a as ih =>
      rw [List.map_cons, List.sum_cons, hzero a List.mem_cons_self List.not_mem_nil,
        ih fun b hb => hzero b (List.mem_cons_of_mem _ hb)]
      rfl
  | cons x xs ih =>
    obtain ⟨hx, hnd⟩ := List.nodup_cons.1 hxs
    have hmem := hsub x List.mem_cons_self
    have hrest := ih (as.erase x) hnd (has.erase x)
      (fun a ha => has.mem_erase_iff.2 ⟨fun he => hx (he ▸ ha), hsub a (List.mem_cons_of_mem _ ha)⟩)
      (fun a ha hno => by
        obtain ⟨hne, ha⟩ := has.mem_erase_iff.1 ha
        exact hzero a ha fun hm => (List.mem_cons.1 hm).elim hne hno)
    rw [((List.perm_cons_erase hmem).map f).sum_nat, List.map_cons, List.sum_cons, hrest, List.map_cons, List.sum_cons]

theorem missedIn_sum (order : List FrameAct) (s : State) : ((actsMade order).map (missedIn order s)).sum =
    missedBy order s 0 + missedBy order s 1 + missedBy order s 2 + missedBy order s 3 := by
  rw [sum_map_of_support (missedIn order s) [.lane 0, .lane 1, .lane 2, .lane 3] (actsMade order) (by decide)
    (actsMade_nodup order) (fun a ha => ?_) (fun a _ hno => ?_)]
  · simp only [List.map_cons, List.map_nil, List.sum_cons, List.sum_nil, missedIn]
    omega
  · simp only [List.mem_cons, List.not_mem_nil, or_false] at ha
    rcases ha with rfl | rfl | rfl | rfl <;> exact lane_mem_actsMade order _
  · cases a with
    | lane m =>
      refine absurd ?_ hno
      match m with
      | 0 | 1 | 2 | 3 => decide
    | _ => rfl

/-- Spec 04 R56: the codes found missing at an output frame start at which no slate is resolved. -/
theorem frameStart_missing (order : List FrameAct) (s : State)
    (hg : (frameStart order s).guard.state ≠ .guarded .slate ∨ s.guard.state = .guarded .slate) :
    (frameStart order s).glyphs.missing = s.glyphs.missing + BitVec.ofNat 32 (missedBy order s 0 + missedBy order s 1 +
      missedBy order s 2 + missedBy order s 3) := by
  rw [← missedIn_sum, frameStart_run]
  exact countsMissed_of_made order s hg [] (actsMade order) rfl (BitVec.add_zero _).symm

/-! ## The lane after the frame start -/

/-- Settles O12: each lane's stages at its own moment, read with the marks that a line may have moved since. -/
theorem unheldLanesRampAndMove : Obligations.UnheldLanesRampAndMove := by
  intro order s t hpin hs hexec ht
  obtain rfl := eq_frameStart_of_exec hpin hexec
  refine ⟨fun m => missedBy order s (Fin.ofNat 4 m), frameStart_missing order s (.inl (by rw [ht]; exact nofun)),
    fun m hm => ?_⟩
  have hfin : Fin.ofNat 4 m = ⟨m, hm⟩ := Fin.ext (Nat.mod_eq_of_lt hm)
  have hl := laneMoment order s ⟨m, hm⟩
  generalize momentOf order s (.lane ⟨m, hm⟩) = u at hl
  have hheld : isGuarded u = false := by
    rcases hl.guard with hg | hg
    · simp [isGuarded, hg, hs]
    · simp [isGuarded, hg, ht]
  have hmarks := hl.marks
  have hexact := hl.exact
  have hmissed := hl.missed
  rw [hheld] at hmarks hexact hmissed
  intro l k f moved left edge tailOf
  have hf : u.timing.format = f := hl.format
  have hafter : AfterStages (drawsNoLine order) (laneStages u false l).1 k := ⟨hmarks, hexact⟩
  have hsettled := laneStages_settled u l
  have hrunning := laneStages_running u l
  have hresting := laneStages_resting u l
  rw [hf] at hsettled hrunning hresting
  generalize laneStages u false l = wn at hafter hmarks hexact hmissed hsettled hrunning hresting
  have hset : k.unmarked.settled = (pacedLane f l).unmarked.settled := by
    rw [hmarks]
    exact settled_unmarked hsettled
  have hspeed : k.speed = (pacedLane f l).speed := (congrArg Lane.speed hset :)
  have hinc : k.increment = (pacedLane f l).increment := (congrArg Lane.increment hset :)
  have hconfig : k.config = (pacedLane f l).config := (congrArg Lane.config hset :)
  have hgeometry : k.geometry = (pacedLane f l).geometry := (congrArg Lane.geometry hset :)
  have hleft : left = remaining (pacedLane f l).increment l.screen := by rw [← hinc]; rfl
  have hedge : edge = rightEdge (pacedLane f l) := by
    show ((k.geometry.right - k.geometry.left : Nat) : Int) * 65536 = _
    rw [hgeometry]; rfl
  have htailOf : ∀ ps, tailOf ps = tailFrom (rightEdge (pacedLane f l)) (pacedLane f l).config.gap ps := fun ps => by
    rw [← hedge, ← hconfig]; rfl
  have hstart : l.state ≠ .idle ∨ l.screen = [] →
      stagesBeforePlacement f l = { pacedLane f l with screen := left } := fun h => by
    rw [hleft]; exact stagesBeforePlacement_moved f l h
  have hran : l.state = .running → ∃ z, Ran u { pacedLane f l with screen := left } z wn.1 wn.2 :=
    fun h => hstart (.inl (by rw [h]; exact nofun)) ▸ hrunning h
  refine ⟨hspeed, by rw [hinc, hspeed]; rfl, (congrArg Lane.target hset :), (congrArg Lane.step hset :),
    (congrArg Lane.owner hset :), (congrArg Lane.base hset :), (congrArg Lane.mode hset :), hconfig,
    (congrArg Lane.pending hset :), fun hno => ?_, by rw [hgeometry, hconfig]; rfl, fun hrun => ?_, fun hdrain => ?_,
    fun hidle => ?_, ?_⟩
  · exact (congrArg Lane.clipped (hexact hno) :).trans (congrArg Lane.clipped hsettled :)
  · obtain ⟨z, hz⟩ := hran hrun
    have hscreen := hz.screen hafter
    simp only [htailOf, hedge]
    exact hscreen
  · have hd := hresting (by rw [hdrain]; exact nofun)
    rw [hstart (.inl (by rw [hdrain]; exact nofun))] at hd
    rw [congrArg Prod.fst hd] at hafter
    exact hafter.draining hdrain
  · have hd := hresting (by rw [hidle]; exact nofun)
    obtain ⟨-, hstate, hcrowd⟩ := stagesBeforePlacement_leaves f l
    have hw : wn.1 = stagesBeforePlacement f l := by
      rw [congrArg Prod.fst hd, drainStage_eq]
      exact if_neg fun h => by rw [hstate, hidle] at h; exact absurd h.1 nofun
    rw [hw] at hmarks
    exact ⟨(congrArg Lane.state hmarks :).trans (hstate.trans hidle), (congrArg Lane.crowded hmarks :).trans hcrowd⟩
  · intro start crowd drain endsAs
    have hbegin : start = { pacedLane f l with screen := left } := by
      show { l with config := k.config, pending := none, geometry := k.geometry, speed := k.speed
                    increment := k.increment, screen := left } = _
      rw [hconfig, hgeometry, hspeed, hinc]
      rfl
    have hends : ∀ z, z = wn.1 → endsAs z := fun z hz => hz ▸ ⟨hmarks, hexact⟩
    have hcount : missedBy order s (Fin.ofNat 4 m) = wn.2 := by rw [hfin]; exact hmissed
    refine ⟨fun hrun => ?_, fun hrest => ?_⟩
    · obtain ⟨z, hz⟩ := hran hrun
      obtain ⟨a, n, more, hr, hp, hn⟩ := hz.refills
      have hzedge : rightEdge z = rightEdge (pacedLane f l) := (congrArg rightEdge hz.kept :)
      have hzgap : z.config.gap = (pacedLane f l).config.gap := (congrArg (fun z => z.config.gap) hz.kept :)
      have hcrowd : crowd z = countCrowded z := by
        rw [countCrowded_eq, tail_eq, hzedge, hzgap, ← htailOf, ← hedge]
      refine ⟨u.quote, n, more, a, z, hl.quote, ?_, hl.tables.places hp, hcount.trans hn, hends _ ?_⟩
      · rw [hbegin, ← hl.tables.refill]; exact hr
      · rw [hz.ends, hcrowd]
        exact (drainStage_eq (countCrowded z)).symm
    · have hne : l.state ≠ .running := by
        rcases hrest with h | ⟨h, -⟩ <;> rw [h] <;> exact nofun
      have hd := hresting hne
      rw [hstart (hrest.imp (fun h => by rw [h]; exact nofun) And.right)] at hd
      refine ⟨hcount.trans (congrArg Prod.snd hd), hends _ ?_⟩
      rw [congrArg Prod.fst hd, hbegin]
      exact (drainStage_eq _).symm

end Sys2Proof.Machine
end

section
/-! PROOFS. The frame set (spec 07 R116, spec 10 R154): each lane's snapshot at its moment, and the codes of a quotation (spec 09
R149 to R151). -/

namespace Sys2Proof.Machine

open Sys2Proof

/-! ## Numbers as codes -/

theorem append_eq_append {α : Type} {as bs cs ds : List α} (h : as = bs) (h' : cs = ds) : as ++ cs = bs ++ ds := by
  rw [h, h']

theorem digitCode_toNat (d : Nat) : (digitCode d).toNat = 0x30 + d % 10 := byte_toNat_of_lt (by omega)

/-- Spec 09 R150: the digits of a number, the first of them not 0 but for 0 itself. -/
theorem decimalDigits_spec (fuel n : Nat) (h : n ≤ fuel) : ∃ ds : List Nat,
    (decimalDigits fuel n).map BitVec.toNat = ds.map (fun d => 0x30 + d) ∧ (∀ d ∈ ds, d < 10) ∧
    ds.foldl (fun v d => 10 * v + d) 0 = n ∧ (n < 10 → ds.length = 1) ∧ ds ≠ [] ∧ (0 < n → ds.head? ≠ some 0) := by
  have hone : ∀ n, n < 10 → ∃ ds : List Nat, [digitCode n].map BitVec.toNat = ds.map (fun d => 0x30 + d) ∧
      (∀ d ∈ ds, d < 10) ∧ ds.foldl (fun v d => 10 * v + d) 0 = n ∧ (n < 10 → ds.length = 1) ∧ ds ≠ [] ∧
      (0 < n → ds.head? ≠ some 0) := fun n hn =>
    ⟨[n], by simp [digitCode_toNat, Nat.mod_eq_of_lt hn], by simpa using hn, by simp, fun _ => rfl, by simp,
      fun hpos => by simp; omega⟩
  induction fuel generalizing n with
  | zero => exact hone n (by omega)
  | succ fuel ih =>
    unfold decimalDigits
    split
    · rename_i hn; exact hone n hn
    · rename_i hn
      obtain ⟨ds, hmap, hlt, hval, -, hne, hhead⟩ := ih (n / 10) (by omega)
      refine ⟨ds ++ [n % 10], by simp [hmap, digitCode_toNat], fun d hd => ?_, ?_, fun h10 => absurd h10 hn, by simp,
        fun _ => ?_⟩
      · rcases List.mem_append.1 hd with hd | hd
        · exact hlt d hd
        · rw [List.mem_singleton.1 hd]; omega
      · rw [List.foldl_append, hval]; show 10 * (n / 10) + n % 10 = n; omega
      · obtain ⟨d, t, rfl⟩ := List.exists_cons_of_ne_nil hne
        exact hhead (by omega)

theorem fixedDigits_toNat (k n : Nat) : (fixedDigits k n).map BitVec.toNat =
    (List.range k).map fun i => 0x30 + n / 10 ^ (k - 1 - i) % 10 := by
  induction k generalizing n with
  | zero => rfl
  | succ k ih =>
    rw [fixedDigits, List.map_append, ih, List.range_succ, List.map_append]
    refine append_eq_append (List.map_congr_left fun i hi => ?_) ?_
    · have hik := List.mem_range.1 hi
      have hpow : 10 ^ (k + 1 - 1 - i) = 10 * 10 ^ (k - 1 - i) := by rw [← Nat.pow_succ']; congr 1; omega
      rw [hpow, Nat.div_div_eq_div_mul]
    · simp [digitCode_toNat]

/-- The digit at a place below `k` is that of the number's remainder. -/
theorem digit_of_mod (m k j : Nat) (h : j < k) : m % 10 ^ k / 10 ^ j % 10 = m / 10 ^ j % 10 := by
  have hk : 10 ^ k = 10 ^ j * 10 ^ (k - j) := by rw [← Nat.pow_add]; congr 1; omega
  rw [hk, Nat.mod_mul_right_div_self, Nat.mod_mod_of_dvd]
  exact ⟨10 ^ (k - j - 1), by rw [← Nat.pow_succ']; congr 1; omega⟩

theorem formatNumber_spec (m k : Nat) : ∃ ds : List Nat, (formatNumber m k).map BitVec.toNat = ds.map (fun d => 0x30 + d) ++
      (if k = 0 then [] else 0x2E :: (List.range k).map fun i => 0x30 + m / 10 ^ (k - 1 - i) % 10) ∧
    ds ≠ [] ∧ (∀ d ∈ ds, d < 10) ∧ ds.foldl (fun v d => 10 * v + d) 0 = m / 10 ^ k ∧
    (1 < ds.length → ds.head? ≠ some 0) := by
  obtain ⟨ds, hmap, hlt, hval, hone, hne, hhead⟩ := decimalDigits_spec m (m / 10 ^ k) (Nat.div_le_self _ _)
  refine ⟨ds, ?_, hne, hlt, hval, fun hlen => hhead ?_⟩
  · rw [formatNumber, List.map_append, hmap]
    by_cases hk : k = 0
    · simp [hk]
    · rw [if_neg hk, if_neg hk, List.map_cons, fixedDigits_toNat]
      refine congrArg (_ ++ _ :: ·) (List.map_congr_left fun i hi => ?_)
      have := List.mem_range.1 hi
      rw [digit_of_mod m k (k - 1 - i) (by omega)]
  · refine Nat.pos_of_ne_zero fun hzero => ?_
    have := hone (by omega)
    omega

/-! ## The parts of a quotation -/

/-- Parts with their palette indices, joined by one space each in the index of the part before it (spec 09 R149, R151). -/
def spaced (parts : List (List Byte × Nat)) : List (Byte × Nat) :=
  (parts.zip (parts.tail.map some ++ [none])).flatMap fun (part, next) =>
    part.1.map (fun c => (c, part.2)) ++ match next with
      | some _ => [(0x20, part.2)]
      | none => []

theorem joinParts_eq (ps : List (Nat × List Byte)) : joinParts ps = spaced (ps.map Prod.swap) := by
  induction ps with
  | nil => rfl
  | cons p ps ih =>
    cases ps with
    | nil => simp [joinParts, spaced, painted]
    | cons p' ps =>
      obtain ⟨i, codes⟩ := p
      rw [joinParts, ih]
      simp [spaced, painted]

/-- Spec 09 R149: a part that has a value where a field set names it. -/
theorem swap_part (b : Bool) (p : Prop) [Decidable p] (h : b = true ↔ p) (x : Nat × List Byte) :
    (if b = true then [x] else []).map Prod.swap = if p then [x.swap] else [] := by
  by_cases hp : p
  · rw [if_pos hp, if_pos (h.2 hp)]; rfl
  · rw [if_neg hp, if_neg fun hb => hp (h.1 hb)]; rfl

/-! ## What the acts leave of a snapshot -/

theorem makeAct_snaps (changed : Bool) (a : FrameAct) (r : FrameRun) (m : Fin 4) (h : a ≠ .snapshot m) :
    (makeAct changed a r).snaps.get m = r.snaps.get m := by
  cases a with
  | snapshot n =>
    have hn : m ≠ n := fun he => h (he ▸ rfl)
    exact Quad.get_set_other r.snaps m n _ (by omega)
  | _ => rfl

theorem runActs_snaps (s : State) (as : List FrameAct) (r : FrameRun) (m : Fin 4) (h : .snapshot m ∉ as) :
    (runActs s as r).snaps.get m = r.snaps.get m :=
  foldl_actStep_keeps (fun r => r.snaps.get m) _ as (fun a ha r => makeAct_snaps _ a r m fun he => h (he ▸ ha)) r

/-! ## Marks are not taken back -/

/-- Every entry that is marked stays marked in its place. -/
def KeepsMarks (ps qs : List Placed) : Prop :=
  ∀ (i : Nat) (p q : Placed), ps[i]? = some p → qs[i]? = some q → p.entry.clipped = true → q.entry.clipped = true

theorem KeepsMarks.refl (ps : List Placed) : KeepsMarks ps ps := fun i p q hp hq h => by
  rw [hp] at hq; cases hq; exact h

theorem KeepsMarks.trans {ps qs rs : List Placed} (h : KeepsMarks ps qs) (h' : KeepsMarks qs rs)
    (hlen : ps.length = qs.length) : KeepsMarks ps rs := fun i p r hp hr hm => by
  have hi : i < qs.length := hlen ▸ (List.getElem?_eq_some_iff.1 hp).1
  have hq : qs[i]? = some qs[i] := List.getElem?_eq_getElem hi
  exact h' i _ r hq hr (h i p _ hp hq hm)

theorem judgeEntry_keepsMarks (g : GlyphStore) (l : Lane) (e : SnapEntry) :
    KeepsMarks l.screen (judgeEntry g l e).1.screen := by
  unfold judgeEntry
  split
  · intro i p q hp hq hm
    simp only [markOnScreen, List.getElem?_map, hp, Option.map_some, Option.some.injEq] at hq
    rw [← hq]
    split
    · rfl
    · exact hm
  · exact .refl _

theorem judgeEntries_keepsMarks (g : GlyphStore) (es : List SnapEntry) (l : Lane) :
    KeepsMarks l.screen (judgeEntries g l es).1.screen := by
  induction es generalizing l with
  | nil => exact .refl _
  | cons e es ih =>
    exact (judgeEntry_keepsMarks g l e).trans (ih (judgeEntry g l e).1)
      (length_of_unmarked (judgeEntry_unmarked g l e)).symm

theorem countClipping_keepsMarks (line : Nat) (s : State) (m : Nat) :
    KeepsMarks (laneOf s m).screen (laneOf (countClipping line s) m).screen := by
  cases h : s.renderer.frameSet with
  | none => rw [countClipping_none line s h]; exact .refl _
  | some q =>
    rw [countClipping_some line s q h]
    show KeepsMarks (s.lanes.get m).screen ((judgeLanes s.glyphs line s.lanes q).1.get m).screen
    rw [(judgeLanes_get s.glyphs line s.lanes q m).1]
    unfold judgeLane
    split
    · exact judgeEntries_keepsMarks _ _ _
    · exact .refl _

theorem runActs_keepsMarks (s : State) (as : List FrameAct) (r : FrameRun) (m : Fin 4) (h : .lane m ∉ as) :
    KeepsMarks (laneOf r.state m).screen (laneOf (runActs s as r).state m).screen := by
  induction as generalizing r with
  | nil => exact .refl _
  | cons a as ih =>
    obtain ⟨ha, has⟩ := List.ne_and_not_mem_of_not_mem_cons h
    have hact := makeAct_lane (formatChanged s.timing) a r m ha.symm
    refine .trans ?_ (ih (actStep (formatChanged s.timing) r a) has) (length_of_unmarked hact.1).symm
    show KeepsMarks (laneOf r.state m).screen (laneOf (makeAct (formatChanged s.timing) a r).state m).screen
    by_cases hline : ∃ p, a = .line p
    · obtain ⟨p, rfl⟩ := hline
      show KeepsMarks _ (laneOf (overtakeLine r.ending p r.state) m).screen
      rcases overtakeLine_cases r.ending p r.state with ho | ⟨fr, _, _, ho⟩
      · rw [ho]; exact .refl _
      · rw [ho]; exact countClipping_keepsMarks _ r.state m
    · rw [hact.2 fun p hp => hline ⟨p, hp⟩]; exact .refl _

/-! ## A lane's snapshot -/

/-- The part at the snapshot of lane `m`, and the lane after the frame start: marks where a line is in drawing. -/
structure SnapshotMoment (order : List FrameAct) (s : State) (m : Fin 4) (v : State) (r : Quad Snapshot) : Prop where
  snap : r.get m = snapshotOf v (laneOf v m)
  quote : v.quote = s.quote ∨ v.quote = (frameStart order s).quote
  tables : SameTables v { s with quote := v.quote }
  marks : (laneOf (frameStart order s) m).unmarked = (laneOf v m).unmarked
  keeps : KeepsMarks (laneOf v m).screen (laneOf (frameStart order s) m).screen
  exact : drawsNoLine order → laneOf (frameStart order s) m = laneOf v m

theorem exists_snapshotMoment (order : List FrameAct) (s : State) (m : Fin 4) :
    ∃ v, SnapshotMoment order s m v (runOf s (actsMade order)).snaps := by
  obtain ⟨A, B, h, hA, hB⟩ := actsMade_split order _ (snapshot_mem_actsMade order m)
  obtain ⟨-, -, -, -, hdis⟩ := nodup_split (h ▸ actsMade_nodup order)
  have hlane : .lane m ∉ B := hdis _ (actsMade_snapshot order A B m h)
  have hafter := runActs_lane s B (actStep (formatChanged s.timing) (runOf s A) (.snapshot m)) m hlane
  have hend : laneOf (frameStart order s) m =
      laneOf (runActs s B (actStep (formatChanged s.timing) (runOf s A) (.snapshot m))).state m := by
    rw [frameStart_run, h, runOf_append]; rfl
  refine ⟨(runOf s A).state, ?_, runOf_quote order A B _ s h, runOf_tables s A, ?_, ?_, fun hno => ?_⟩
  · rw [h, runOf_append, runActs_snaps s B _ m hB]
    exact Quad.get_set_same _ _ _
  · rw [hend]; exact hafter.1
  · rw [hend]
    exact runActs_keepsMarks s B (actStep (formatChanged s.timing) (runOf s A) (.snapshot m)) m hlane
  · rw [hend]
    exact hafter.2 fun p hp => (not_mem_of_drawsNoLine h hno).2 p (List.mem_cons_of_mem _ hp)

/-- Spec 07 R116: what an entry of the frame set shows of its placed entry and its lane. -/
theorem SnapshotMoment.entry {order : List FrameAct} {s v : State} {m : Fin 4} {r : Quad Snapshot}
    (h : SnapshotMoment order s m v r) {i : Nat} {e : SnapEntry} {p : Placed} (he : (r.get m).entries[i]? = some e)
    (hp : (laneOf (frameStart order s) m).screen[i]? = some p) :
    (e.clipped = true → p.entry.clipped = true) ∧ (drawsNoLine order → e.clipped = p.entry.clipped) ∧
      e.shown = shownOf v (laneOf (frameStart order s) m) p.entry := by
  rw [h.snap] at he
  obtain ⟨q, hq, rfl⟩ : ∃ q, (laneOf v m).screen[i]? = some q ∧ snapEntry v (laneOf v m) q = e := by
    simpa [snapshotOf, List.getElem?_map] using he
  obtain ⟨p', hp', hpq⟩ := getElem?_of_unmarked (congrArg Lane.screen h.marks.symm :) hq
  obtain rfl : p' = p := Option.some.inj (hp'.symm.trans hp)
  refine ⟨h.keeps i q p' hq hp, fun hno => ?_, ?_⟩
  · rw [h.exact hno, hq] at hp
    exact congrArg (fun z => z.entry.clipped) (Option.some.inj hp)
  · have hitem : p'.entry.item = q.entry.item := (congrArg (fun z => z.entry.item) hpq :)
    have hstyle : p'.entry.style = q.entry.style := (congrArg (fun z => z.entry.style) hpq :)
    have hstale : (laneOf (frameStart order s) m).config.staleColour = (laneOf v m).config.staleColour :=
      (congrArg (fun z => z.config.staleColour) h.marks :)
    show shownOf v (laneOf v m) q.entry = _
    unfold shownOf
    rw [hitem, hstyle, hstale]

/-- Settles O13: each lane's snapshot is taken at its own moment, after its stages. -/
theorem frameSetShowsTheLists : Obligations.FrameSetShowsTheLists := by
  refine ⟨fun order s hpin => ⟨frameStart order s, (runOf s (actsMade order)).snaps, exec_outputFrameStart order s hpin,
    by rw [frameStart_run]; rfl, fun m hm => ?_⟩, fun q x fields style stale => ?_, formatNumber_spec⟩
  · obtain ⟨v, hv⟩ := exists_snapshotMoment order s ⟨m, hm⟩
    intro l z
    have hz : z = snapshotOf v (laneOf v m) := hv.snap
    have hmarks : l.unmarked = (laneOf v m).unmarked := hv.marks
    have hgeometry : l.geometry = (laneOf v m).geometry := (congrArg Lane.geometry hmarks :)
    have hconfig : l.config = (laneOf v m).config := (congrArg Lane.config hmarks :)
    have hstyles : v.styles = s.styles := hv.tables.styles
    have htext : v.text = s.text := hv.tables.text
    refine ⟨by rw [hz, hgeometry]; rfl, by rw [hz, hgeometry]; rfl, by rw [hz, hgeometry]; rfl, by rw [hz, hgeometry]; rfl,
      by rw [hz, hconfig]; rfl, by rw [hz, hconfig]; rfl, ?_, ?_, v.quote, hv.quote, fun i e p he hp => ?_⟩
    · rw [hz, hconfig]
      show bandOf v (laneOf v m) = _
      simp only [bandOf, styleAt, hstyles]
    · let row (p : Placed) := (p.number, p.x / 65536, (p.x % 65536).toNat / 8192, p.entry.width, p.entry.style)
      have hrow : row ∘ unmarked = row := rfl
      have hscreen : l.screen.map row = (laneOf v m).screen.map row := by
        rw [← hrow, ← List.map_map, ← List.map_map]
        exact congrArg (List.map row) (congrArg Lane.screen hmarks :)
      refine Eq.trans ?_ hscreen.symm
      rw [hz]
      show ((laneOf v m).screen.map (snapEntry v (laneOf v m))).map _ = _
      rw [List.map_map]
      rfl
    · obtain ⟨h1, h2, h3⟩ := hv.entry he hp
      have hshown : shownOf v l p.entry = shownOf { s with quote := v.quote } l p.entry := by
        simp only [shownOf, htext]
      exact ⟨h1, h2, h3.trans hshown⟩
  · intro entry plain sign price arrow change percent parts
    have hentry : symbolMovement q x = entry := rfl
    have hparts : (quoteParts q x fields style stale).map Prod.swap = parts := by
      show Prod.swap (style.textColour, x.text) :: List.map Prod.swap (_ ++ _ ++ _ ++ _) = _
      rw [List.map_append, List.map_append, List.map_append]
      refine congrArg (List.cons _)
        (append_eq_append (append_eq_append (append_eq_append ?_ ?_) ?_) ?_)
      · simp only [price]
        cases x.last with
        | none => rfl
        | some l => exact swap_part _ _ Iff.rfl _
      · simp only [arrow, hentry]
        cases entry.arrow with
        | none => rfl
        | some a => exact swap_part _ _ (by simp) _
      · exact swap_part _ _ (by simp [Option.isSome_iff_ne_none]) _
      · simp only [percent]
        cases x.percent with
        | none => rfl
        | some p => exact swap_part _ _ (by simp [Option.isSome_iff_ne_none]) _
    show joinParts _ = _
    rw [joinParts_eq, hparts]
    rfl

end Sys2Proof.Machine
end

section
/-! PROOFS. The release of a power-on reset (spec 01 R13, spec 11 R181): the first output frame start finds nothing that acts on the
guard, the key or a lane, so that its place before or after the guard's reading does not show. -/

namespace Sys2Proof.Machine

open Sys2Proof

/-! ## A frame start at which nothing moves -/

/-- Nothing waits to act at an output frame start: the lanes are IDLE and empty, FEED_LOSS is out and can not come, and the key is
at its target. -/
structure Quiet (v : State) : Prop where
  lanes : ∀ m, (laneOf v m).state = .idle ∧ (laneOf v m).screen = []
  symbols : v.quote.symbols = []
  feed : v.quote.feedFrames = 0
  starts : v.timing.starts = []
  out : v.guard.active.feedLoss = false
  key : v.keyer.level = v.keyer.target.level

theorem formatChanged_of_no_start {t : OutputTiming} (h : t.starts = []) : formatChanged t = false := by
  simp [formatChanged, startFormat, h]

theorem Quiet.quoteAfter {v : State} (h : Quiet v) (order : List FrameAct) :
    (frameStart order v).quote.symbols = [] ∧ (frameStart order v).quote.feedFrames = 0 := by
  rw [frameStart_quote, formatChanged_of_no_start h.starts]
  exact ⟨by rw [quoteFrame, if_neg nofun]; show mapSymbols _ v.quote.symbols = []; rw [h.symbols]; rfl, h.feed⟩

/-- Neither the guard nor the key moves. -/
theorem Quiet.guardAfter {v : State} (h : Quiet v) (order : List FrameAct) :
    (frameStart order v).guard = v.guard ∧ (frameStart order v).keyer = v.keyer := by
  obtain ⟨u, G, H, m⟩ := exists_guardMoment order v
  have hfeed : u.quote.feedFrames = 0 := by
    rcases m.quote with hq | hq <;> rw [hq]
    · exact h.feed
    · exact (h.quoteAfter order).2
  have hmoves := guardEvaluate_moves u
  have hsame : guardEvaluate u = u := by
    refine hmoves.stays (hmoves.active.trans ?_)
    have hout : feedLossAfter u.guard u.quote = false := by
      rw [feedLossAfter, if_neg fun hn => hn.1 hfeed, m.guard, h.out, Bool.and_false]
    rw [hout, m.guard, ← h.out]
  refine ⟨by rw [m.guardAfter, hsame, m.guard], ?_⟩
  rw [m.keyEnd, hsame, m.key, keyAfter_of_rested G v.keyer h.key, keyAfter_of_rested H v.keyer h.key]

/-- An IDLE lane with an empty list stands and finds nothing missing (spec 07 R114). -/
theorem laneStages_of_idle (s : State) (held : Bool) (l : Lane) (hs : l.state = .idle) (he : l.screen = []) :
    (laneStages s held l).1.state = .idle ∧ (laneStages s held l).1.screen = [] ∧ (laneStages s held l).2 = 0 := by
  cases held with
  | true => rw [laneStages_held]; exact ⟨hs, he, rfl⟩
  | false =>
    have hstart := stagesBeforePlacement_moved s.timing.format l (.inr he)
    rw [he] at hstart
    have hdrain : drainStage (stagesBeforePlacement s.timing.format l) = stagesBeforePlacement s.timing.format l := by
      rw [drainStage_eq]
      exact if_neg fun h => by
        rw [(stagesBeforePlacement_leaves s.timing.format l).2.1, hs] at h
        exact absurd h.1 nofun
    rw [laneStages_resting s l (by rw [hs]; exact nofun), hdrain, hstart]
    exact ⟨hs, rfl, rfl⟩

/-- The lanes stay IDLE and empty, and nothing is found missing. -/
theorem Quiet.lanesAfter {v : State} (h : Quiet v) (order : List FrameAct) :
    (∀ m : Fin 4, (laneOf (frameStart order v) m).state = .idle ∧ (laneOf (frameStart order v) m).screen = []) ∧
      (frameStart order v).glyphs = v.glyphs := by
  have hidle := fun m : Fin 4 => laneStages_of_idle (momentOf order v (.lane m)) (isGuarded (momentOf order v (.lane m)))
    (laneOf v m) (h.lanes m).1 (h.lanes m).2
  refine ⟨fun m => ?_, ?_⟩
  · obtain ⟨hs, he, -⟩ := hidle m
    have hmarks := (laneMoment order v m).marks
    have hstate := (congrArg Lane.state hmarks :)
    have hscreen := (congrArg Lane.screen hmarks :)
    refine ⟨hstate.trans hs, ?_⟩
    have hempty : (laneOf (frameStart order v) m).screen.map unmarked = [] := by
      refine hscreen.trans ?_
      show List.map unmarked _ = []
      rw [he]; rfl
    exact List.map_eq_nil_iff.1 hempty
  · have hmissed : ∀ m, missedBy order v m = 0 := fun m => (laneMoment order v m).missed.trans (hidle m).2.2
    have hguard := (h.guardAfter order).1
    have hmissing := frameStart_missing order v (by
      rw [hguard]
      by_cases hs : v.guard.state = .guarded .slate
      · exact .inr hs
      · exact .inl hs)
    rw [hmissed, hmissed, hmissed, hmissed] at hmissing
    obtain ⟨g, n, k, q, ls, fs, ll, hr⟩ := frameStart_rest order v
    have hglyphs : (frameStart order v).glyphs = { v.glyphs with missing := (frameStart order v).glyphs.missing } := by
      rw [hr]; rfl
    rw [hglyphs, hmissing]
    exact congrArg (fun n => { v.glyphs with missing := n }) (BitVec.add_zero v.glyphs.missing)

/-! ## The guard's reading after the reset -/

/-- The guard and the key as the release leaves them (spec 11 R181, spec 10 R166). -/
structure GuardedForInputLoss (t : State) : Prop where
  state : t.guard.state = .guarded .clear
  active : t.guard.active = { inputLoss := true, feedLoss := false, intakeOverrun := false, manual := false }
  level : t.keyer.level = 0
  target : t.keyer.target = .off
  wish : t.keyer.wish = .off

/-- Nothing is in the set, INPUT_LOSS may join with CLEAR, there is no signal, and the key is off. -/
structure FreshlyReset (c : State) : Prop where
  rested : Rested c
  cause : c.guard.inputLoss = ⟨true, false, .clear⟩
  input : c.input.state = .noSignal
  level : c.keyer.level = 0
  target : c.keyer.target = .off
  wish : c.keyer.wish = .off

theorem FreshlyReset.joins {c : State} (h : FreshlyReset c) : GuardedForInputLoss (joinPresent c) ∧
    joinPresent c = { c with guard := (joinPresent c).guard, keyer := (joinPresent c).keyer } := by
  obtain ⟨hactive, hstate, -⟩ := h.rested.joins
  obtain ⟨hlevel, htarget⟩ := h.rested.key h.level h.target
  obtain ⟨hleaves, -, -, -, -, hwish, -, -⟩ := h.rested.leaves
  rw [h.cause, h.input] at hactive hstate
  have hstate' : (joinPresent c).guard.state = .guarded .clear := hstate
  obtain ⟨-, -, hmissing⟩ := h.rested.noSlate (by rw [hstate']; exact nofun)
  refine ⟨⟨hstate', hactive, hlevel, htarget, hwish.trans h.wish⟩, hleaves.trans ?_⟩
  rw [hmissing]

/-! ## The release -/

/-- The part after the reset with its pin high. -/
def pinReleased (s : State) : State := { powerOnReset s with pins := { (powerOnReset s).pins with resetLow := false } }

theorem quiet_of_guarded {v s : State} (h : v = { pinReleased s with guard := v.guard, keyer := v.keyer })
    (hout : v.guard.active.feedLoss = false) (hkey : v.keyer.level = v.keyer.target.level) : Quiet v where
  lanes m := by rw [laneOf_all .initial v m (by rw [h]; rfl)]; exact ⟨rfl, rfl⟩
  symbols := by rw [h]; rfl
  feed := by rw [h]; rfl
  starts := by rw [h]; rfl
  out := hout
  key := hkey

theorem freshlyReset_pinReleased (s : State) : FreshlyReset (pinReleased s) :=
  ⟨⟨rfl, rfl, rfl, rfl, rfl⟩, rfl, rfl, rfl, rfl, rfl⟩

/-- Either order of the guard's reading and the frame start comes to a frame start at which nothing moves, and to a part guarded
for INPUT_LOSS (log 8). -/
theorem releaseReset_powerOnReset (s : State) (guardFirst : Bool) (order : List FrameAct) : ∃ v,
    v = { pinReleased s with guard := v.guard, keyer := v.keyer } ∧ Quiet v ∧
    GuardedForInputLoss (releaseReset guardFirst order (powerOnReset s)) ∧
    releaseReset guardFirst order (powerOnReset s) = { frameStart order v with
      guard := (releaseReset guardFirst order (powerOnReset s)).guard
      keyer := (releaseReset guardFirst order (powerOnReset s)).keyer } := by
  have hfresh := freshlyReset_pinReleased s
  cases guardFirst with
  | true =>
    obtain ⟨hg, hframe⟩ := hfresh.joins
    have hquiet : Quiet (joinPresent (pinReleased s)) :=
      quiet_of_guarded hframe (by rw [hg.active]) (by rw [hg.level, hg.target]; rfl)
    obtain ⟨hguard, hkeyer⟩ := hquiet.guardAfter order
    refine ⟨joinPresent (pinReleased s), hframe, hquiet, ?_, rfl⟩
    show GuardedForInputLoss (frameStart order (joinPresent (pinReleased s)))
    exact ⟨by rw [hguard, hg.state], by rw [hguard, hg.active], by rw [hkeyer, hg.level], by rw [hkeyer, hg.target],
      by rw [hkeyer, hg.wish]⟩
  | false =>
    have hquiet : Quiet (pinReleased s) := quiet_of_guarded rfl rfl rfl
    obtain ⟨hguard, hkeyer⟩ := hquiet.guardAfter order
    obtain ⟨g, n, k, q, ls, fs, ll, hr⟩ := frameStart_rest order (pinReleased s)
    have hinput : (frameStart order (pinReleased s)).input = (pinReleased s).input := by rw [hr]; rfl
    have hintake : (frameStart order (pinReleased s)).intake = (pinReleased s).intake := by rw [hr]; rfl
    have hfeed : feedLossPresent (frameStart order (pinReleased s)).quote = false := by
      rw [feedLossPresent, (hquiet.quoteAfter order).2]; rfl
    have hafter : FreshlyReset (frameStart order (pinReleased s)) :=
      ⟨⟨by rw [hguard]; rfl, by rw [hguard]; rfl, by rw [hguard]; rfl, by rw [hintake]; rfl, hfeed⟩, by rw [hguard]; rfl,
        by rw [hinput]; rfl, by rw [hkeyer]; rfl, by rw [hkeyer]; rfl, by rw [hkeyer]; rfl⟩
    exact ⟨pinReleased s, rfl, hquiet, hafter.joins.1, hafter.joins.2⟩

/-- Settles O3: the first frame start moves neither the guard nor the key nor a lane, so that its place does not show. -/
theorem releaseStartsGuardedForInputLoss : Obligations.ReleaseStartsGuardedForInputLoss := by
  intro s guardFirst order
  obtain ⟨v, hv, hquiet, hg, ht⟩ := releaseReset_powerOnReset s guardFirst order
  have hexec : exec (.resetRelease guardFirst order) (powerOnReset s) =
      .next (releaseReset guardFirst order (powerOnReset s)) := rfl
  obtain ⟨hlanes, hglyphs⟩ := hquiet.lanesAfter order
  obtain ⟨hsymbols, -⟩ := hquiet.quoteAfter order
  have hlane : ∀ m : Nat, ∃ j : Fin 4, laneOf (frameStart order v) m = laneOf (frameStart order v) j := fun m => by
    match m with
    | 0 => exact ⟨0, rfl⟩
    | 1 => exact ⟨1, rfl⟩
    | 2 => exact ⟨2, rfl⟩
    | _ + 3 => exact ⟨3, rfl⟩
  obtain ⟨g, n, k, q, ls, fs, ll, hr⟩ := frameStart_rest order v
  generalize releaseReset guardFirst order (powerOnReset s) = t at hg ht hexec
  have hquote : t.quote = (frameStart order v).quote := by rw [ht]
  have hlane' : t.lanes = (frameStart order v).lanes := by rw [ht]
  have hglyphs' : t.glyphs = v.glyphs := by rw [ht]; exact hglyphs
  rw [hr] at ht
  generalize v.guard = g', v.keyer = k' at hv
  subst hv
  refine ⟨t, hexec, by rw [ht]; rfl, by rw [ht]; rfl, by rw [ht]; rfl, by rw [ht]; rfl, by rw [ht]; rfl, by rw [ht]; rfl,
    by rw [ht]; rfl, hg.state, hg.active, hg.level, hg.target, hg.wish, by rw [ht]; rfl, by rw [ht]; rfl, by rw [ht]; rfl,
    by rw [ht]; rfl, by rw [ht]; rfl, by rw [ht]; rfl, by rw [ht]; rfl, hquote ▸ hsymbols, fun m => ?_, hglyphs',
    by rw [ht]; rfl⟩
  obtain ⟨j, hj⟩ := hlane m
  have hsame : laneOf t m = laneOf (frameStart order _) j := (congrArg (Quad.get · m) hlane').trans hj
  rw [hsame]
  exact hlanes j

end Sys2Proof.Machine
end
